-- ==== Sys2Proof/Word.lean ====
section
/-!
DEFINITION. The two bit-vector widths of the CFE.
R9: every number is unsigned, a byte is 8 bits and bit 0 is the least significant bit.
R41: the host side is accessed in 32-bit words.
-/

namespace Sys2Proof

/-- One byte: a frame byte, an address, a method code (R9). -/
abbrev Byte := BitVec 8

/-- One 32-bit word: the value of a host access (R41), or the table's word of four wire bytes (R67). -/
abbrev Word := BitVec 32

end Sys2Proof
end

