-- ==== Sys2Proof/Config.lean ====
section
/-!
DEFINITION. The implementation parameters of R6.
A parameter that R6 leaves OPEN and that has an effect on the machine, CRC_INIT, is a field of `Params`, which `State` carries and no step changes:
a claim about every state is then a claim about every value of it (D9).
TICK_PERIOD, the other OPEN one, has no place here: the model counts ticks and has no time (D34).
Every other parameter is a constant with the value R6 gives it.
-/

namespace Sys2Proof

namespace Config

/-- PAYLOAD_MAX (R6): the largest payload length. -/
def payloadMax : Nat := 255
/-- HDR_LEN (R6): header bytes on the wire. -/
def hdrLen : Nat := 4
/-- CK_LEN (R6): trailing checksum bytes, in both modes. -/
def ckLen : Nat := 1
/-- FRAME_MAX (R6): HDR_LEN + PAYLOAD_MAX + CK_LEN. -/
def frameMax : Nat := hdrLen + payloadMax + ckLen
/-- SLOTS (R6): event slots of a credit reply. -/
abbrev slots : Nat := 5
/-- DBUF_SIZE (R6, D15): bytes of the data buffer. -/
def dbufSize : Nat := 255
/-- CRC_POLY (R6, R82; the spec's own general knowledge G1, assumption 2). -/
def crcPoly : BitVec 16 := 0x1021#16
/-- ECHO_RESET (R6, D7): the reset value of CTRL.ECHO_EN. -/
def echoReset : Bool := true
/-- OWN_ADDR_RESET (R6, R12; the spec's own general knowledge G4, assumption 2). -/
def ownAddrReset : Byte := 0x01#8

/-- M_COMMS_REV (R67): request comms revision. -/
def methodCommsRev : Byte := 4#8
/-- M_RESET (R67, D30): reset device. -/
def methodReset : Byte := 1#8
/-- M_RD_MINH (R67, D30): read master inhibit status. -/
def methodRdMinh : Byte := 227#8
/-- M_MOD_MINH (R67, D30): modify master inhibit status. -/
def methodModMinh : Byte := 228#8
/-- M_RD_CREDIT (R67, D30): read buffered credit or error codes. -/
def methodRdCredit : Byte := 229#8
/-- M_RD_INH (R67, D30): read inhibit status. -/
def methodRdInh : Byte := 230#8
/-- M_MOD_INH (R67, D30): modify inhibit status. -/
def methodModInh : Byte := 231#8

end Config

/-- The OPEN parameters of R6 that change what the machine does.
They belong to the implementation, not to a run: `State` carries them and no step changes them. -/
structure Params where
  /-- CRC_INIT (R6, R82): the initial value of the CRC register, an OPEN parameter whose stated default is 0x0000. -/
  crcInit : BitVec 16
  deriving DecidableEq, Repr

/-- R6's stated default: CRC_INIT = 0x0000. -/
def Params.stated : Params := ⟨0x0000#16⟩

end Sys2Proof
end

