-- ==== Sys2Proof/Syntax.lean ====
section
/-!
DEFINITION. The instructions: one constructor per row of spec/opcode_table.json.
R2: an instruction of this hardware is a host command; on the wire the opcode is the method code in frame byte 3.
The five rows of format CMD take no operand: their operands are the registers (R66).
The seven rows of format WIRE_REQ carry the three other bytes of the request's header as operands (R67).
-/

namespace Sys2Proof

/-- One instruction, by its row of the opcode table.
The operands of a WIRE_REQ row are wire bytes 0, 1 and 2 of the request: the destination, the payload length, and the source byte,
which in Ccitt mode holds the low byte of the CRC (R60, R62). -/
inductive Instr where
  /-- NOP (R124): a write of 0x00 to CMD.OP. -/
  | nop
  /-- SEND (R90): serialize and transmit one frame. -/
  | send
  /-- RECV (R100): receive and validate one frame. -/
  | recv
  /-- RECV_STATUS (R107): RECV, then deliver the status byte. -/
  | recvStatus
  /-- RECV_DATA (R108): RECV_STATUS, then copy the payload to DBUF. -/
  | recvData
  /-- M_COMMS_REV (R138): request comms revision. -/
  | mCommsRev (dest len src : Byte)
  /-- M_RESET (R67): reset device. -/
  | mReset (dest len src : Byte)
  /-- M_RD_MINH (R139): read master inhibit status. -/
  | mRdMinh (dest len src : Byte)
  /-- M_MOD_MINH (R141): modify master inhibit status. -/
  | mModMinh (dest len src : Byte)
  /-- M_RD_CREDIT (R144): read buffered credit or error codes. -/
  | mRdCredit (dest len src : Byte)
  /-- M_RD_INH (R139): read inhibit status. -/
  | mRdInh (dest len src : Byte)
  /-- M_MOD_INH (R141): modify inhibit status. -/
  | mModInh (dest len src : Byte)
  deriving DecidableEq, Repr

end Sys2Proof
end

