-- ==== Sys2Proof/WellFormed.lean ====
section
/-!
DEFINITION. Which instruction terms have the shape the spec documents.
A command has no operand and is always well formed.
A request is well formed when its length byte is a payload length that R67 documents for its method.
The hardware treats the method code as opaque (R64, R68), so an ill-formed request still decodes and still runs.
-/

namespace Sys2Proof

/-- The payload lengths R67 documents for a method: "empty"; "empty (probe); 1 byte (command)"; "empty (probe); 2 bytes (command)".
For M_RESET the table says "not in source", so every length is allowed. -/
def Instr.wellFormed : Instr → Bool
  | .nop => true
  | .send => true
  | .recv => true
  | .recvStatus => true
  | .recvData => true
  | .mCommsRev _ len _ => len == 0#8
  | .mReset _ _ _ => true
  | .mRdMinh _ len _ => len == 0#8
  | .mModMinh _ len _ => len == 0#8 || len == 1#8
  | .mRdCredit _ len _ => len == 0#8
  | .mRdInh _ len _ => len == 0#8
  | .mModInh _ len _ => len == 0#8 || len == 2#8

end Sys2Proof
end

