-- ==== Sys2Proof/Decode.lean ====
section
/-!
DEFINITION. The two decoders and the encoder.
R66: a word written to CMD is a command; bits 7:0 are OP and bits 31:8 are ignored.
R67: the word `byte0 or (byte1 << 8) or (byte2 << 16) or (byte3 << 24)` of a request's first four wire bytes is a request; its method code is bits 31:24.
Which of the two a word is depends on where it stands, not on its bits: the machine uses `decodeCmd` for a write to CMD and `decodeRequest` for a request.
Only the opcode table puts both over one word; `decodeTableWord` chooses there (assumption 5).
-/

namespace Sys2Proof

/-- Why a word is no instruction. -/
inductive DecodeError where
  /-- CMD.OP is 0x05 to 0xFF (R66, R68). -/
  | reservedOpcode (op : Byte)
  /-- Byte 3 of a request is none of the seven methods of R67. -/
  | unlistedMethod (method : Byte)
  deriving DecidableEq, Repr

/-- CMD.OP (R66): bits 7:0. -/
def opField (w : Word) : Byte := w.extractLsb' 0 8
/-- Wire byte 0 of a request word (R67). -/
def destField (w : Word) : Byte := w.extractLsb' 0 8
/-- Wire byte 1 of a request word (R67). -/
def lenField (w : Word) : Byte := w.extractLsb' 8 8
/-- Wire byte 2 of a request word (R67). -/
def srcField (w : Word) : Byte := w.extractLsb' 16 8
/-- Wire byte 3 of a request word, the method code (R67). -/
def methodField (w : Word) : Byte := w.extractLsb' 24 8

/-- The decoder of a word written to CMD (R66). -/
def decodeCmd (w : Word) : Except DecodeError Instr :=
  let op := opField w
  if op = 0x00#8 then .ok .nop
  else if op = 0x01#8 then .ok .send
  else if op = 0x02#8 then .ok .recv
  else if op = 0x03#8 then .ok .recvStatus
  else if op = 0x04#8 then .ok .recvData
  else .error (.reservedOpcode op)

/-- The decoder of a request word (R67): byte 3 alone selects the method. -/
def decodeRequest (w : Word) : Except DecodeError Instr :=
  let m := methodField w
  if m = Config.methodCommsRev then .ok (.mCommsRev (destField w) (lenField w) (srcField w))
  else if m = Config.methodReset then .ok (.mReset (destField w) (lenField w) (srcField w))
  else if m = Config.methodRdMinh then .ok (.mRdMinh (destField w) (lenField w) (srcField w))
  else if m = Config.methodModMinh then .ok (.mModMinh (destField w) (lenField w) (srcField w))
  else if m = Config.methodRdCredit then .ok (.mRdCredit (destField w) (lenField w) (srcField w))
  else if m = Config.methodRdInh then .ok (.mRdInh (destField w) (lenField w) (srcField w))
  else if m = Config.methodModInh then .ok (.mModInh (destField w) (lenField w) (srcField w))
  else .error (.unlistedMethod m)

/-- Does the table word's byte 3 hold one of the seven method codes of R67?
DESIGN CHOICE (assumption 5): such a table word is read as a request, every other one as a command. -/
def isRequestWord (w : Word) : Bool :=
  match decodeRequest w with
  | .ok _ => true
  | .error _ => false

/-- A table word, as the model reads it: a request where `isRequestWord` says so, else a command. -/
def decodeWord (w : Word) : Except DecodeError Instr :=
  if isRequestWord w then decodeRequest w else decodeCmd w

/-- The table word made of `nbits` bits of `w`, every higher bit zero. -/
def tableWord (nbits w : Nat) : Word := BitVec.ofNat 32 (w % 2 ^ nbits)

/-- What the decoder reads from an instruction of `nbits` bits whose bits are `w`. -/
def decodeTableWord (nbits w : Nat) : Option Instr :=
  match decodeWord (tableWord nbits w) with
  | .ok i => some i
  | .error _ => none

/-- The word of four wire bytes (R67). -/
def requestWord (dest len src method : Byte) : Word := method ++ src ++ len ++ dest

/-- The word of an instruction: for a command the word written to CMD, with the ignored bits 31:8 zero (R66);
for a request the word of its four header bytes (R67). -/
def encode : Instr → Word
  | .nop => 0x0000_0000#32
  | .send => 0x0000_0001#32
  | .recv => 0x0000_0002#32
  | .recvStatus => 0x0000_0003#32
  | .recvData => 0x0000_0004#32
  | .mCommsRev dest len src => requestWord dest len src Config.methodCommsRev
  | .mReset dest len src => requestWord dest len src Config.methodReset
  | .mRdMinh dest len src => requestWord dest len src Config.methodRdMinh
  | .mModMinh dest len src => requestWord dest len src Config.methodModMinh
  | .mRdCredit dest len src => requestWord dest len src Config.methodRdCredit
  | .mRdInh dest len src => requestWord dest len src Config.methodRdInh
  | .mModInh dest len src => requestWord dest len src Config.methodModInh

/-- Is the instruction one of the seven WIRE_REQ rows (R67), not one of the five CMD rows (R66)? -/
def Instr.isRequest : Instr → Bool
  | .nop => false
  | .send => false
  | .recv => false
  | .recvStatus => false
  | .recvData => false
  | .mCommsRev _ _ _ => true
  | .mReset _ _ _ => true
  | .mRdMinh _ _ _ => true
  | .mModMinh _ _ _ => true
  | .mRdCredit _ _ _ => true
  | .mRdInh _ _ _ => true
  | .mModInh _ _ _ => true

/-- One row of the opcode table: the bits an instruction's word must have. -/
structure TableRow where
  mask : Word
  pattern : Word
  deriving DecidableEq, Repr

/-- The table's row of a command (format CMD, R66). -/
def cmdRow (op : Byte) : TableRow := ⟨0x0000_00FF#32, op.setWidth 32⟩
/-- The table's row of a request (format WIRE_REQ, R67). -/
def requestRow (method : Byte) : TableRow := ⟨0xFF00_0000#32, requestWord 0#8 0#8 0#8 method⟩

/-- The opcode-table row each constructor stands for. -/
def Instr.row : Instr → TableRow
  | .nop => cmdRow 0x00#8
  | .send => cmdRow 0x01#8
  | .recv => cmdRow 0x02#8
  | .recvStatus => cmdRow 0x03#8
  | .recvData => cmdRow 0x04#8
  | .mCommsRev _ _ _ => requestRow 0x04#8
  | .mReset _ _ _ => requestRow 0x01#8
  | .mRdMinh _ _ _ => requestRow 0xE3#8
  | .mModMinh _ _ _ => requestRow 0xE4#8
  | .mRdCredit _ _ _ => requestRow 0xE5#8
  | .mRdInh _ _ _ => requestRow 0xE6#8
  | .mModInh _ _ _ => requestRow 0xE7#8

end Sys2Proof
end

