-- ==== Sys2Proof/Machine/State.lean ====
section
/-!
DEFINITION. Everything the spec gives the machine, as plain data.
R10: the complete state of the CFE is its configuration and frame registers, the TX payload buffer, the status and result registers, DBUF,
and the engine-internal state of R27 and R28.
Beside it stand, each marked as such: the environment the CFE acts on (R8, R30), the driver software whose contract the spec writes down
(R4, R135 to R146), the OPEN parameters (R6), and the model's own fields (the agenda of events, the last host read value).
-/

namespace Sys2Proof.Machine

/-- The checksum mode, CTRL.CKSUM_MODE (R11): 0 = Simple, 1 = Ccitt. -/
inductive CkMode where
  | simple
  | ccitt
  deriving DecidableEq, Repr

/-- CTRL (R11). -/
structure Ctrl where
  /-- CKSUM_MODE, bit 0. -/
  ckMode : CkMode
  /-- ECHO_EN, bit 1. -/
  echoEn : Bool
  /-- IRQ_EN, bit 2. -/
  irqEn : Bool
  deriving DecidableEq, Repr

/-- TX_HDR (R15). -/
structure TxHdr where
  /-- TX_DEST, bits 7:0. -/
  dest : Byte
  /-- TX_LEN, bits 15:8. -/
  len : Byte
  /-- TX_METHOD, bits 23:16. -/
  method : Byte
  deriving DecidableEq, Repr

/-- LENCHK.LEN_MODE (R16), two bits. -/
inductive LenMode where
  /-- 0: no check. -/
  | none
  /-- 1: the received length must equal EXP_LEN. -/
  | exact
  /-- 2: the received length must be at least EXP_LEN. -/
  | min
  /-- 3: reserved; storable, and a RECV command accepted with it ends with ERR_CFG (R101). -/
  | reserved
  deriving DecidableEq, Repr

/-- LENCHK (R16). -/
structure LenChk where
  /-- EXP_LEN, bits 7:0. -/
  expLen : Byte
  /-- LEN_MODE, bits 9:8. -/
  lenMode : LenMode
  deriving DecidableEq, Repr

/-- RESULT (R24). -/
structure Result where
  /-- STATUS_BYTE, bits 7:0. -/
  statusByte : Byte
  /-- STATUS_VALID, bit 8. -/
  statusValid : Bool
  /-- DEV_ERR, bit 9. -/
  devErr : Bool
  /-- COPY_LEN, bits 23:16. -/
  copyLen : Byte
  deriving DecidableEq, Repr

/-- RESULT = 0. -/
def Result.zero : Result := ⟨0#8, false, false, 0#8⟩

/-- TX_CK (R25). -/
structure TxCk where
  /-- TX_TRAIL, bits 7:0. -/
  trail : Byte
  /-- TX_WIRE2, bits 15:8. -/
  wire2 : Byte
  deriving DecidableEq, Repr

/-- The sequencer's PHASE (R27). The codes 8 to 15, "never taken", have no constructor. -/
inductive Phase where
  | idle
  | txHdr
  | txPayload
  | txCk
  | echo
  | rxHdr
  | rxPayload
  | rxCk
  deriving DecidableEq, Repr

/-- The error codes of STATUS.ERR (R155). The codes 7 to 15, "never produced", have no constructor. -/
inductive ErrCode where
  | none
  | wrTimeout
  | rdTimeout
  | echo
  | integrity
  | length
  | cfg
  deriving DecidableEq, Repr

/-- OP, the command in progress (R28 a), by its opcode (R66). NOP is never in progress: it stands here for "none accepted since reset". -/
inductive Op where
  | nop
  | send
  | recv
  | recvStatus
  | recvData
  deriving DecidableEq, Repr

/-- What stands at an aligned offset of the host register space (R10, R43). -/
inductive Reg where
  | ctrl
  | ownAddr
  | timeoutMs
  | rxSrcExpect
  | txHdr
  | lenchk
  | dbufLen
  | cmd
  | status
  | rxHdr
  | rxCk
  | result
  | txCk
  | txPayload (i : Nat)
  | rxPayload (i : Nat)
  | dbuf (i : Nat)
  | unmapped
  deriving DecidableEq, Repr

/-- A logical frame (R60, R61): the source is the true one, whatever the mode puts on the wire. -/
structure Frame where
  dest : Byte
  src : Byte
  hdr : Byte
  payload : List Byte
  deriving DecidableEq, Repr

/-! ### The driver software (R4, R135 to R146): state of the host agent, not of the block -/

/-- The Device record (R135). -/
structure Device where
  address : Byte
  protocolVersion : BitVec 16
  coinMask : BitVec 16
  hasMasterInhibit : Bool
  hasInhibitStatus : Bool
  deriving DecidableEq, Repr

/-- One event slot of a credit reply (R136). -/
structure Slot where
  coinValue : Byte
  sorterPath : Byte
  acceptorError : Byte
  deriving DecidableEq, Repr

/-- The CreditInfo record (R136): the sequence counter and exactly 5 slots. -/
structure CreditInfo where
  sequence : Byte
  slots : Vector Slot Config.slots
  deriving DecidableEq, Repr

/-- How an exchange receives its reply (R70): the receive command and the length validator's setting. -/
structure ReplyPlan where
  recvOp : Op
  lenMode : LenMode
  expLen : Byte
  deriving DecidableEq, Repr

/-- The progress of the exchange XCHG of R70. -/
inductive Exchange where
  /-- No exchange has been started. -/
  | none
  /-- SEND has been issued; `recvOp` is the receive command to issue after it, if the method has a documented reply. -/
  | sending (recvOp : Option Op)
  /-- The receive command has been issued. -/
  | receiving
  /-- The exchange did not fail. -/
  | succeeded
  /-- SEND or the receive command ended with this error code. -/
  | failed (e : ErrCode)
  deriving DecidableEq, Repr

/-- Which of the driver's operations is running, and how far it is (R137, R141, R144). -/
inductive Job where
  | idle
  /-- scan, step 1: the version query. -/
  | scanVersion (address : Byte)
  /-- scan, step 2: `probes` holds the results of the probes done, in the order of R137. -/
  | scanProbe (address : Byte) (version : BitVec 16) (probes : List Bool)
  /-- set_accept_coins: waiting for the reply's status. -/
  | setAccept (address : Byte)
  /-- query_credits: waiting for the reply. -/
  | credits (address : Byte)
  deriving DecidableEq, Repr

/-- The driver's operations (R70). -/
inductive Call where
  | scan (address : Byte)
  | setAcceptCoins (address : Byte) (on : Bool)
  | setCoinMask (address : Byte) (mask : BitVec 16)
  | queryCredits (address : Byte)
  deriving DecidableEq, Repr

/-- The error classes as the caller sees them (R146, R156), and two that DOC0's taxonomy does not name. -/
inductive CallError where
  | transportError
  | integrityError
  | protocolError
  | deviceStatusError
  /-- ERR_CFG: "none (this spec's own)" (R155). -/
  | configError
  /-- The call names an address for which the driver holds no Device record (assumption 9). -/
  | noDevice
  deriving DecidableEq, Repr

/-- What a finished call returned. -/
inductive CallResult where
  | scanned (d : Device)
  | success
  | creditInfo (c : CreditInfo)
  | failure (why : CallError)
  deriving DecidableEq, Repr

/-- The driver software's state: "state of the host agent" (R135, R136, R31). -/
structure Driver where
  exch : Exchange
  job : Job
  /-- Calls the application has made and the driver has not started, oldest first: one exchange at a time, sequences one after the other (R146). -/
  calls : List Call
  /-- The Device records, by address strictly rising. -/
  devices : List Device
  /-- What the last finished call returned. -/
  result : Option CallResult
  deriving DecidableEq, Repr

/-- No Device record exists until a scan succeeds (R184), nothing is running. -/
def Driver.initial : Driver := ⟨.none, .idle, [], [], Option.none⟩

/-! ### Events (R7) -/

/-- The width of a host access. Only 32-bit accesses are defined (R41, R43). -/
inductive AccessSize where
  | byte
  | half
  | word
  deriving DecidableEq, Repr

/-- The host's events (R7, R42), with the width and the offset of the access left free so that R43's cases can be written. -/
inductive HostAccess where
  | write (size : AccessSize) (off : Nat) (v : Word)
  | read (size : AccessSize) (off : Nat)
  deriving DecidableEq, Repr

/-- The inputs of one clock cycle (R40, R190). -/
structure Cycle where
  txReady : Bool
  rxValid : Bool
  tick : Bool
  host : Option HostAccess
  rst : Bool
  deriving DecidableEq, Repr

/-- One turn of an agent (R7), or of the environment (R8).
A turn whose event is not enabled has no effect. -/
inductive Event where
  /-- The host makes one register access; a write to CMD is a command. -/
  | host (a : HostAccess)
  /-- The host's software issues the request whose first four wire bytes are `h` (R67, R70). -/
  | request (h : Word)
  /-- The application calls one of the driver's operations. -/
  | call (c : Call)
  /-- The driver software takes its next turn. -/
  | software
  /-- TxAccept: the transport takes the byte the engine offers. -/
  | txAccept
  /-- RxByte: the transport hands the engine the oldest byte it holds. -/
  | rxByte
  /-- Tick: one timeout unit has elapsed. -/
  | tick
  /-- Reset. -/
  | reset
  /-- The line delivers a byte to the transport (R30). -/
  | arrive (b : Byte)
  /-- The transport loses the byte at this place of those it holds (R30, U7). -/
  | lose (n : Nat)
  /-- Several inputs in one clock cycle (R190). -/
  | cycle (c : Cycle)
  deriving DecidableEq, Repr

/-- The buffers TX_PAYLOAD and DBUF: (offset in the host register space, byte), offsets strictly rising, no byte 0 listed.
An unlisted offset reads 0, the reset value of every element (R18, R26). -/
abbrev Memory := List Host.Cell

/-- The whole state. -/
structure State where
  /-- CTRL (R11). -/
  ctrl : Ctrl
  /-- OWN_ADDR (R12). -/
  ownAddr : Byte
  /-- TIMEOUT_MS (R13). -/
  timeoutMs : Word
  /-- RX_SRC_EXPECT (R14). -/
  rxSrcExpect : Byte
  /-- TX_HDR (R15). -/
  txHdr : TxHdr
  /-- LENCHK (R16). -/
  lenchk : LenChk
  /-- DBUF_LEN (R17). -/
  dbufLen : Byte
  /-- TX_PAYLOAD (R18) and DBUF (R26). -/
  mem : Memory
  /-- STATUS.BUSY (R20). -/
  busy : Bool
  /-- STATUS.DONE (R20). -/
  done : Bool
  /-- STATUS.ERR (R20, R155). -/
  err : ErrCode
  /-- STATUS.RX_VALID (R20). -/
  rxValid : Bool
  /-- STATUS.CMD_ERR (R20). -/
  cmdErr : Bool
  /-- STATUS.ERR_PHASE (R20). -/
  errPhase : Phase
  /-- STATUS.ERR_CNT (R20). -/
  errCnt : BitVec 9
  /-- RESULT (R24). -/
  result : Result
  /-- TX_CK (R25). -/
  txCk : TxCk
  /-- PHASE of the sequencer, shown in STATUS.PHASE (R27). -/
  phase : Phase
  /-- IDX of the sequencer (R27), 9 bits. -/
  idx : BitVec 9
  /-- ELAPSED of the sequencer (R27, R166), TIMEOUT_W bits. -/
  elapsed : Word
  /-- OP (R28 a). -/
  op : Op
  /-- WIRE (R28 b). -/
  wire : List Byte
  /-- ECHO_STG (R28 c). -/
  echoStg : List Byte
  /-- RX_STG (R28 d). -/
  rxStg : List Byte
  /-- RX_MODE_L (R28 e). -/
  rxModeL : CkMode
  /-- RX_EXP_L (R28 e). -/
  rxExpL : Byte
  /-- ENVIRONMENT: the bytes the transport holds and the engine has not taken, oldest first (R30). -/
  rxFifo : List Byte
  /-- ENVIRONMENT: the bytes the transport has accepted from the TX stream, oldest first (R44). -/
  txLine : List Byte
  /-- SOFTWARE: the driver of R135 to R146. -/
  driver : Driver
  /-- MODEL'S OWN: the value the last host read returned (R42). -/
  rdata : Word
  /-- MODEL'S OWN: the agents' turns to come, in the order they come (R7). -/
  agenda : List Event
  /-- PARAMETERS: the OPEN ones of R6; no step changes them. -/
  params : Params
  deriving DecidableEq, Repr

/-- Why the machine stops with a fault. -/
inductive Fault where
  /-- Raised by a host access whose offset lies outside 0x000 to 0xFFF: the block has no such address (R41).
  Safe: the model stops where the platform decides. -/
  | outsideRegisterSpace
  deriving DecidableEq, Repr

/-- Why the model gives no meaning. -/
inductive Refusal where
  /-- Answered by an arm of `exec` whose instruction has no meaning yet. Safe. -/
  | notModelled (mnemonic : String)
  /-- Answered by a host access that is not an aligned 32-bit word: "not defined by this spec: the model refuses a program that makes one" (R43). Safe. -/
  | undefinedAccess
  /-- Answered by a request event whose byte 3 is none of the seven methods of R67: no row of the table is meant, so there is no instruction.
  Any such byte can still be sent by writing TX_HDR and SEND (R68). Safe. -/
  | unlistedMethod (method : Byte)
  deriving DecidableEq, Repr

/-- The machine right after `Reset` (R32, R180), with nothing in the environment and no event to come.
The hidden state of R28, which R32 leaves unspecified, is empty or zero here: DESIGN CHOICE (assumption 4). -/
def State.reset : State where
  ctrl := ⟨.simple, Config.echoReset, false⟩
  ownAddr := Config.ownAddrReset
  timeoutMs := 0#32
  rxSrcExpect := 0#8
  txHdr := ⟨0#8, 0#8, 0#8⟩
  lenchk := ⟨0#8, .none⟩
  dbufLen := 0#8
  mem := []
  busy := false
  done := false
  err := .none
  rxValid := false
  cmdErr := false
  errPhase := .idle
  errCnt := 0#9
  result := Result.zero
  txCk := ⟨0#8, 0#8⟩
  phase := .idle
  idx := 0#9
  elapsed := 0#32
  op := .nop
  wire := []
  echoStg := []
  rxStg := []
  rxModeL := .simple
  rxExpL := 0#8
  rxFifo := []
  txLine := []
  driver := Driver.initial
  rdata := 0#32
  agenda := []
  params := Params.stated

end Sys2Proof.Machine
end

