-- ==== Sys2Proof/Machine/Checksum.lean ====
section
/-!
DEFINITION. The checksum functions (R80 to R84) and the wire image of a frame (R61, R62): pure functions of bytes.
-/

namespace Sys2Proof.Machine

/-- The sum of all bytes, exactly. -/
def byteSum : List Byte → Nat
  | [] => 0
  | b :: bs => b.toNat + byteSum bs

/-- `CkSimple` (R80). -/
def ckSimple (s : List Byte) : Byte := BitVec.ofNat 8 ((256 - byteSum s % 256) % 256)

/-- `OkSimple` (R81): the sum of the whole received frame is 0 modulo 256. -/
def okSimple (f : List Byte) : Bool := byteSum f % 256 == 0

/-- One of the eight shifts of R82. -/
def crcShift (c : BitVec 16) : BitVec 16 :=
  if c.getLsbD 15 then (c <<< 1) ^^^ Config.crcPoly else c <<< 1

/-- "repeat n times" (R82). -/
def crcShifts : Nat → BitVec 16 → BitVec 16
  | 0, c => c
  | n + 1, c => crcShifts n (crcShift c)

/-- One byte of `Crc16` (R82): `c <- c xor (b << 8)`, then eight shifts. -/
def crcByte (c : BitVec 16) (b : Byte) : BitVec 16 := crcShifts 8 (c ^^^ (b.setWidth 16 <<< 8))

/-- `Crc16` (R82), from the initial value `init` (the parameter CRC_INIT). -/
def crc16 (init : BitVec 16) : List Byte → BitVec 16
  | [] => init
  | b :: bs => crc16 (crcByte init b) bs

/-- `SplitCcitt` (R83), the byte that goes to wire position 2: bits 7:0. -/
def crcWire2 (c : BitVec 16) : Byte := c.extractLsb' 0 8
/-- `SplitCcitt` (R83), the trailing byte: bits 15:8. -/
def crcTrail (c : BitVec 16) : Byte := c.extractLsb' 8 8

/-- `OkCcitt` (R84): the CRC with `expSrc` in the source position, its low byte against wire byte 2 and its high byte against the trailing byte. -/
def okCcitt (init : BitVec 16) (f : List Byte) (expSrc : Byte) : Bool :=
  let c := crc16 init ([f.getD 0 0#8, f.getD 1 0#8, expSrc, f.getD 3 0#8] ++ (f.drop 4).dropLast)
  crcWire2 c == f.getD 2 0#8 && crcTrail c == f.getD (f.length - 1) 0#8

/-- The payload length as the frame's length byte (R15: the length always equals the payload size). -/
def Frame.len (fr : Frame) : Byte := BitVec.ofNat 8 fr.payload.length

/-- The four header bytes with the true source in position 2 (R80, R82). -/
def Frame.header (fr : Frame) : List Byte := [fr.dest, fr.len, fr.src, fr.hdr]

/-- The wire image of a logical frame: R61 in Simple mode, R62 in Ccitt mode. -/
def Frame.image (mode : CkMode) (init : BitVec 16) (fr : Frame) : List Byte :=
  match mode with
  | .simple => fr.header ++ fr.payload ++ [ckSimple (fr.header ++ fr.payload)]
  | .ccitt =>
    let c := crc16 init (fr.header ++ fr.payload)
    [fr.dest, fr.len, crcWire2 c, fr.hdr] ++ fr.payload ++ [crcTrail c]

/-- Validation of a received frame in the mode it was received in (R103, R104). -/
def frameOk (mode : CkMode) (init : BitVec 16) (expSrc : Byte) (f : List Byte) : Bool :=
  match mode with
  | .simple => okSimple f
  | .ccitt => okCcitt init f expSrc

end Sys2Proof.Machine
end

