-- ==== Sys2Proof/Machine/Ops.lean ====
section
/-!
DEFINITION. The named operations over the buffers and over the sequencer: the memory of TX_PAYLOAD and DBUF, the acceptance of a command (R120),
the two stream primitives of R44 and R45 as far as they need no event, and completion (R123), which is also how an error is taken (R157, `fail`).
R162: there is no return from an error; the next acceptance clears what the error left.
-/

namespace Sys2Proof.Machine

/-! ### The buffers -/

/-- The byte at a key; an unlisted key reads 0 (R18, R26). -/
def Memory.read : Memory → Nat → Byte
  | [], _ => 0#8
  | (k, v) :: m, a => if a = k then v else Memory.read m a

/-- Store one byte and keep the canonical form: keys strictly rising, no byte 0 listed. -/
def Memory.write : Memory → Nat → Byte → Memory
  | [], a, b => if b = 0#8 then [] else [(a, b)]
  | (k, v) :: m, a, b =>
    if a < k then (if b = 0#8 then (k, v) :: m else (a, b) :: (k, v) :: m)
    else if a = k then (if b = 0#8 then m else (a, b) :: m)
    else (k, v) :: Memory.write m a b

/-- Store bytes one word apart, the first at `a`: element `i` of a buffer stands at its base plus `4·i` (R18, R26). -/
def Memory.writeElems : Memory → Nat → List Byte → Memory
  | m, _, [] => m
  | m, a, b :: bs => Memory.writeElems (Memory.write m a b) (a + 4) bs

/-- The first `n` elements of the buffer at `base`. -/
def Memory.readElems (m : Memory) (base n : Nat) : List Byte :=
  (List.range n).map fun i => Memory.read m (base + 4 * i)

/-- Every key is at least `lo`, keys rise strictly, and no byte 0 is listed. -/
def Memory.wfFrom : Nat → Memory → Bool
  | _, [] => true
  | lo, (k, v) :: m => decide (lo ≤ k) && decide (v ≠ 0#8) && Memory.wfFrom (k + 1) m

/-- The canonical form: equal memories are equal lists. -/
def Memory.wf (m : Memory) : Bool := Memory.wfFrom 0 m

/-- Offset of TX_PAYLOAD[0] (R18). -/
def txPayloadBase : Nat := 0x400
/-- Offset of RX_PAYLOAD[0] (R22). -/
def rxPayloadBase : Nat := 0x800
/-- Offset of DBUF[0] (R26). -/
def dbufBase : Nat := 0xC00

/-- Byte `i` of TX_PAYLOAD. -/
def State.txByte (s : State) (i : Nat) : Byte := s.mem.read (txPayloadBase + 4 * i)
/-- Byte `i` of DBUF. -/
def State.dbufByte (s : State) (i : Nat) : Byte := s.mem.read (dbufBase + 4 * i)
/-- TX_PAYLOAD[0 .. TX_LEN-1]: the payload SEND reads (R18). -/
def State.txPayload (s : State) : List Byte := s.mem.readElems txPayloadBase s.txHdr.len.toNat

/-! ### The phases (R27) -/

/-- Is the phase a write phase, its transfers `TxAccept` (R44)? -/
def Phase.isWrite : Phase → Bool
  | .txHdr | .txPayload | .txCk => true
  | .idle | .echo | .rxHdr | .rxPayload | .rxCk => false

/-- Is the phase a read phase, its transfers `RxByte` (R45)? -/
def Phase.isRead : Phase → Bool
  | .echo | .rxHdr | .rxPayload | .rxCk => true
  | .idle | .txHdr | .txPayload | .txCk => false

/-- The error a phase's window ends with (R44, R45): ERR_WR_TIMEOUT in a write phase, ERR_RD_TIMEOUT in a read phase.
IDLE has no window, and no step asks for its error. -/
def Phase.timeoutErr : Phase → ErrCode
  | .txHdr | .txPayload | .txCk => .wrTimeout
  | .idle | .echo | .rxHdr | .rxPayload | .rxCk => .rdTimeout

/-- Received wire byte 1: the payload length of the frame being received (R63). -/
def State.rxLen (s : State) : Byte := s.rxStg.getD 1 0#8

/-- The bytes a phase has to move (R27, third column). -/
def State.toMoveIn (s : State) : Phase → Nat
  | .idle => 0
  | .txHdr => 4
  | .txPayload => s.txHdr.len.toNat
  | .txCk => 1
  | .echo => 5 + s.txHdr.len.toNat
  | .rxHdr => 4
  | .rxPayload => s.rxLen.toNat
  | .rxCk => 1

/-- The bytes the current phase has to move. -/
def State.toMove (s : State) : Nat := s.toMoveIn s.phase

/-- Where in the wire image a write phase's bytes begin (R90). -/
def State.wireBase (s : State) : Nat :=
  match s.phase with
  | .txPayload => 4
  | .txCk => 4 + s.txHdr.len.toNat
  | .idle | .txHdr | .echo | .rxHdr | .rxPayload | .rxCk => 0

/-! ### Elementary updates -/

/-- CMD_ERR <- 1 (R121). -/
def State.setCmdErr (s : State) : State := { s with cmdErr := true }

/-- Completion (R123), with error code, failing phase and count. The operation's own last writes are made before it. -/
def State.complete (e : ErrCode) (ph : Phase) (cnt : BitVec 9) (s : State) : State :=
  { s with
    err := e, errPhase := ph, errCnt := cnt
    phase := .idle, idx := 0#9, elapsed := 0#32
    busy := false, done := true }

/-- `fail ERR_X(ph, cnt)` (R157): taking an error. The operation stops where it is and completion runs; no later step of its procedure does. -/
def State.fail (e : ErrCode) (ph : Phase) (cnt : BitVec 9) (s : State) : State := s.complete e ph cnt

/-- Complete with ERR = 0 (R123). -/
def State.succeed (s : State) : State := s.complete .none .idle 0#9

/-- Is the operation one of the three receive commands? -/
def Op.isRecv : Op → Bool
  | .recv | .recvStatus | .recvData => true
  | .nop | .send => false

/-- Acceptance (R120): what every accepted command does before its own procedure. CMD_ERR is not changed. -/
def State.accept (o : Op) (s : State) : State :=
  { s with
    busy := true, done := false
    err := .none, errPhase := .idle, errCnt := 0#9
    rxValid := if o.isRecv then false else s.rxValid
    result := if o.isRecv then Result.zero else s.result
    op := o }

/-- The first steps of R44 and R45: `PHASE <- phase; IDX <- 0; ELAPSED <- 0`, and the result of a read begins empty
(the payload and the trailing byte are appended to the header in RX_STG, R28 d). -/
def State.beginPhase (p : Phase) (s : State) : State :=
  { s with
    phase := p, idx := 0#9, elapsed := 0#32
    echoStg := if p = .echo then [] else s.echoStg
    rxStg := if p = .rxHdr then [] else s.rxStg }

/-- `WriteAll` and `ReadExact` up to their first wait (R44, R45, R48).
With nothing to move the phase succeeds at once and the procedure goes on with `next`, whatever TIMEOUT_MS is.
Otherwise, with TIMEOUT_MS = 0, it fails at once, and else it waits. -/
def State.openPhase (p : Phase) (next : State → State) (s : State) : State :=
  let s := s.beginPhase p
  if s.toMove = 0 then next s
  else if s.timeoutMs = 0#32 then s.fail p.timeoutErr p 0#9
  else s

end Sys2Proof.Machine
end

