-- ==== Sys2Proof/Machine/Flags.lean ====
section
/-!
DEFINITION. The status bits and the output ports as functions of the state: STATUS (R20), `irq` (R160), and the handshakes of the two streams (R40).
There are no arithmetic condition codes (R21).
-/

namespace Sys2Proof.Machine

/-- The code of a phase (R27). -/
def Phase.code : Phase → BitVec 4
  | .idle => 0#4
  | .txHdr => 1#4
  | .txPayload => 2#4
  | .txCk => 3#4
  | .echo => 4#4
  | .rxHdr => 5#4
  | .rxPayload => 6#4
  | .rxCk => 7#4

/-- The number of an error code (R155). -/
def ErrCode.code : ErrCode → BitVec 4
  | .none => 0#4
  | .wrTimeout => 1#4
  | .rdTimeout => 2#4
  | .echo => 3#4
  | .integrity => 4#4
  | .length => 5#4
  | .cfg => 6#4

/-- STATUS (R20): bits 31:25 reserved, 24:16 ERR_CNT, 15:12 ERR_PHASE, 11:8 PHASE, 7 CMD_ERR, 6 RX_VALID, 5:2 ERR, 1 DONE, 0 BUSY. -/
def State.statusWord (s : State) : Word :=
  0#7 ++ s.errCnt ++ s.errPhase.code ++ s.phase.code ++ BitVec.ofBool s.cmdErr ++ BitVec.ofBool s.rxValid
    ++ s.err.code ++ BitVec.ofBool s.done ++ BitVec.ofBool s.busy

/-- RESULT.DEV_ERR for a delivered status byte (R24, R107). -/
def devErrOf (status : Byte) : Bool := status != 0#8

/-- The output `irq` (R160): a level, DONE and IRQ_EN. -/
def State.irq (s : State) : Bool := s.done && s.ctrl.irqEn

/-- The output `tx_valid` (R40): 1 exactly while a write phase has a byte left to send. -/
def State.txValid (s : State) : Bool := s.phase.isWrite && decide (s.idx.toNat < s.toMove)

/-- The output `tx_data` (R40, R44): the byte offered.
While `tx_valid` = 0 the spec gives the port no value; there it is what WIRE holds at the same place, 0 where it holds nothing: DESIGN CHOICE (assumption 26). -/
def State.txData (s : State) : Byte := s.wire.getD (s.wireBase + s.idx.toNat) 0#8

/-- The output `rx_ready` (R40): 1 exactly while a read phase still needs a byte. -/
def State.rxReady (s : State) : Bool := s.phase.isRead && decide (s.idx.toNat < s.toMove)

end Sys2Proof.Machine
end

