-- ==== Sys2Proof/Machine/Operands.lean ====
section
/-!
DEFINITION. The operand forms: the register map (R10), the fields of every register (R11 to R26), the gating of the RX view (R22, R23),
and what a host read returns and a host write stores (R42).
-/

namespace Sys2Proof.Machine

/-- The byte in bits 7:0, the rest zero. -/
def wordOfByte (b : Byte) : Word := b.setWidth 32
/-- Bits 7:0. -/
def byte0 (v : Word) : Byte := v.extractLsb' 0 8
/-- Bits 15:8. -/
def byte1 (v : Word) : Byte := v.extractLsb' 8 8
/-- Bits 23:16. -/
def byte2 (v : Word) : Byte := v.extractLsb' 16 8
/-- Bits 31:24. -/
def byte3 (v : Word) : Byte := v.extractLsb' 24 8

/-! ### The fields of the registers -/

/-- CKSUM_MODE as its bit (R11). -/
def CkMode.bit : CkMode → Bool
  | .simple => false
  | .ccitt => true

/-- CKSUM_MODE from its bit (R11). -/
def CkMode.ofBit (b : Bool) : CkMode := if b then .ccitt else .simple

/-- CTRL as a word (R11). -/
def Ctrl.toWord (c : Ctrl) : Word :=
  0#29 ++ BitVec.ofBool c.irqEn ++ BitVec.ofBool c.echoEn ++ BitVec.ofBool c.ckMode.bit

/-- CTRL from a written word: bits 31:3 are ignored (R11). -/
def Ctrl.ofWord (v : Word) : Ctrl := ⟨CkMode.ofBit (v.getLsbD 0), v.getLsbD 1, v.getLsbD 2⟩

/-- TX_HDR as a word (R15). -/
def TxHdr.toWord (h : TxHdr) : Word := 0#8 ++ h.method ++ h.len ++ h.dest

/-- TX_HDR from a written word: bits 31:24 are ignored (R15). -/
def TxHdr.ofWord (v : Word) : TxHdr := ⟨byte0 v, byte1 v, byte2 v⟩

/-- LEN_MODE as its two bits (R16). -/
def LenMode.code : LenMode → BitVec 2
  | .none => 0#2
  | .exact => 1#2
  | .min => 2#2
  | .reserved => 3#2

/-- LEN_MODE from its two bits (R16). -/
def LenMode.ofBits (hi lo : Bool) : LenMode :=
  match hi, lo with
  | false, false => .none
  | false, true => .exact
  | true, false => .min
  | true, true => .reserved

/-- LENCHK as a word (R16). -/
def LenChk.toWord (l : LenChk) : Word := 0#22 ++ l.lenMode.code ++ l.expLen

/-- LENCHK from a written word: bits 31:10 are ignored (R16). -/
def LenChk.ofWord (v : Word) : LenChk := ⟨byte0 v, LenMode.ofBits (v.getLsbD 9) (v.getLsbD 8)⟩

/-- RESULT as a word (R24). -/
def Result.toWord (r : Result) : Word :=
  0#8 ++ r.copyLen ++ 0#6 ++ BitVec.ofBool r.devErr ++ BitVec.ofBool r.statusValid ++ r.statusByte

/-- TX_CK as a word (R25). -/
def TxCk.toWord (c : TxCk) : Word := 0#16 ++ c.wire2 ++ c.trail

/-! ### The RX view (R22, R23) -/

/-- RX_SRC (R22): received wire byte 2 in Simple mode, the latched RX_SRC_EXPECT in Ccitt mode. -/
def State.rxSrc (s : State) : Byte :=
  match s.rxModeL with
  | .simple => s.rxStg.getD 2 0#8
  | .ccitt => s.rxExpL

/-- RX_HDR (R22): 0 while RX_VALID = 0. -/
def State.rxHdrWord (s : State) : Word :=
  if s.rxValid then s.rxStg.getD 3 0#8 ++ s.rxSrc ++ s.rxStg.getD 1 0#8 ++ s.rxStg.getD 0 0#8 else 0#32

/-- RX_CK (R23): 0 while RX_VALID = 0; else the trailing byte and received wire byte 2 as it was on the wire. -/
def State.rxCkWord (s : State) : Word :=
  if s.rxValid then 0#16 ++ s.rxStg.getD 2 0#8 ++ s.rxStg.getD (4 + s.rxLen.toNat) 0#8 else 0#32

/-- Byte `i` of RX_PAYLOAD (R22): received wire byte 4+i for `i < RX_LEN`; 0 above it and while RX_VALID = 0. -/
def State.rxPayloadByte (s : State) (i : Nat) : Byte :=
  if s.rxValid && decide (i < s.rxLen.toNat) then s.rxStg.getD (4 + i) 0#8 else 0#8

/-! ### The register map (R10) -/

/-- The register at an aligned offset of 0x000 to 0xFFC (R10); the gaps are unmapped (R43). -/
def Reg.ofOffset (off : Nat) : Reg :=
  if off = 0x000 then .ctrl
  else if off = 0x004 then .ownAddr
  else if off = 0x008 then .timeoutMs
  else if off = 0x00C then .rxSrcExpect
  else if off = 0x010 then .txHdr
  else if off = 0x014 then .lenchk
  else if off = 0x018 then .dbufLen
  else if off = 0x01C then .cmd
  else if off = 0x020 then .status
  else if off = 0x024 then .rxHdr
  else if off = 0x028 then .rxCk
  else if off = 0x02C then .result
  else if off = 0x030 then .txCk
  else if 0x400 ≤ off ∧ off ≤ 0x7F8 then .txPayload ((off - 0x400) / 4)
  else if 0x800 ≤ off ∧ off ≤ 0xBF8 then .rxPayload ((off - 0x800) / 4)
  else if 0xC00 ≤ off ∧ off ≤ 0xFF8 then .dbuf ((off - 0xC00) / 4)
  else .unmapped

/-- Is the register locked while BUSY (R10, R54)? -/
def Reg.locked : Reg → Bool
  | .ctrl | .ownAddr | .timeoutMs | .rxSrcExpect | .txHdr | .lenchk | .dbufLen | .txPayload _ => true
  | .cmd | .status | .rxHdr | .rxCk | .result | .txCk | .rxPayload _ | .dbuf _ | .unmapped => false

/-- The value a host read of the register returns (R42): fields in place, reserved bits 0, CMD 0 (R66), unmapped 0 (R43). -/
def Reg.read (r : Reg) (s : State) : Word :=
  match r with
  | .ctrl => s.ctrl.toWord
  | .ownAddr => wordOfByte s.ownAddr
  | .timeoutMs => s.timeoutMs
  | .rxSrcExpect => wordOfByte s.rxSrcExpect
  | .txHdr => s.txHdr.toWord
  | .lenchk => s.lenchk.toWord
  | .dbufLen => wordOfByte s.dbufLen
  | .cmd => 0#32
  | .status => s.statusWord
  | .rxHdr => s.rxHdrWord
  | .rxCk => s.rxCkWord
  | .result => s.result.toWord
  | .txCk => s.txCk.toWord
  | .txPayload i => wordOfByte (s.txByte i)
  | .rxPayload i => wordOfByte (s.rxPayloadByte i)
  | .dbuf i => wordOfByte (s.dbufByte i)
  | .unmapped => 0#32

/-- What a host write stores when nothing forbids it (R42): the writable fields of the register, from the same bit positions of `v`.
A write to STATUS clears DONE where bit 1 is written 1 and CMD_ERR where bit 7 is (R20).
A write to a read-only register or to an unmapped offset is ignored (R42, R43). CMD is not written here: a write to it is a command (R120). -/
def Reg.store (r : Reg) (v : Word) (s : State) : State :=
  match r with
  | .ctrl => { s with ctrl := Ctrl.ofWord v }
  | .ownAddr => { s with ownAddr := byte0 v }
  | .timeoutMs => { s with timeoutMs := v }
  | .rxSrcExpect => { s with rxSrcExpect := byte0 v }
  | .txHdr => { s with txHdr := TxHdr.ofWord v }
  | .lenchk => { s with lenchk := LenChk.ofWord v }
  | .dbufLen => { s with dbufLen := byte0 v }
  | .status => { s with done := s.done && !v.getLsbD 1, cmdErr := s.cmdErr && !v.getLsbD 7 }
  | .txPayload i => { s with mem := s.mem.write (txPayloadBase + 4 * i) (byte0 v) }
  | .cmd => s
  | .rxHdr => s
  | .rxCk => s
  | .result => s
  | .txCk => s
  | .rxPayload _ => s
  | .dbuf _ => s
  | .unmapped => s

/-- A host write to a register other than CMD: the lock of R54, then the store. -/
def Reg.write (r : Reg) (v : Word) (s : State) : State :=
  if r.locked && s.busy then s.setCmdErr else r.store v s

end Sys2Proof.Machine
end

