-- ==== Sys2Proof/Machine/Arbiter.lean ====
section
/-!
DEFINITION. Command admission (R120, R121) and the command NOP (R124).
-/

namespace Sys2Proof.Machine

/-- Admission of a defined opcode 0x01 to 0x04 (R120): while BUSY the command is dropped and CMD_ERR is set (R121 a);
otherwise it is accepted and `run`, its own procedure, runs up to its first wait. -/
def admitCommand (o : Op) (run : State → State) (s : State) : State :=
  if s.busy then s.setCmdErr else run (s.accept o)

/-- A reserved opcode 0x05 to 0xFF (R121 b): ignored, CMD_ERR is set, at any time. -/
def reservedCommand (s : State) : State := s.setCmdErr

/-- NOP (R124): no effect on any state, at any time. -/
def execNop (s : State) : Host.Outcome State Fault Refusal := .next s

end Sys2Proof.Machine
end

