-- ==== Sys2Proof/Machine/Receive.lean ====
section
/-!
DEFINITION. The deserializer: RECV, RECV_STATUS, RECV_DATA (R100 to R113) and the payload length validator (R106).
-/

namespace Sys2Proof.Machine

/-- `LenOk(N)` (R106). LEN_MODE = 3 never reaches the validator (R101); in a state no run reaches it rejects (assumption 14). -/
def lenOk (l : LenChk) (n : Byte) : Bool :=
  match l.lenMode with
  | .none => true
  | .exact => n == l.expLen
  | .min => decide (l.expLen.toNat ≤ n.toNat)
  | .reserved => false

/-- The received payload, RX_STG[4 .. 3+N]. -/
def State.rxPayload (s : State) : List Byte := (s.rxStg.drop 4).take s.rxLen.toNat

/-- The status delivery of RECV_STATUS (R107). -/
def deliverStatus (s : State) : State :=
  { s with result := { s.result with
      statusByte := s.rxStg.getD 3 0#8
      statusValid := true
      devErr := devErrOf (s.rxStg.getD 3 0#8) } }

/-- `min(N, L)` (R85: on 8-bit unsigned values). -/
def minByte (n l : Byte) : Byte := if n.toNat ≤ l.toNat then n else l

/-- The copy of RECV_DATA (R109): zero-fill DBUF[0 .. L-1], then copy the first `min(N, L)` payload bytes. -/
def copyToDbuf (s : State) : State :=
  let n := minByte s.rxLen s.dbufLen
  let zeroed := s.mem.writeElems dbufBase (List.replicate s.dbufLen.toNat 0#8)
  { s with
    mem := zeroed.writeElems dbufBase (s.rxPayload.take n.toNat)
    result := { s.result with copyLen := n } }

/-- The `deliver` step of each receive command (R100, R107, R108). NOP and SEND never receive. -/
def deliver (s : State) : State :=
  match s.op with
  | .recvStatus => deliverStatus s
  | .recvData => copyToDbuf (deliverStatus s)
  | .nop => s
  | .send => s
  | .recv => s

/-- Everything from `validate` to `complete` (R100): one atomic step with the last byte's arrival. -/
def finishReceive (s : State) : State :=
  if frameOk s.rxModeL s.params.crcInit s.rxExpL s.rxStg then
    let s := { s with rxValid := true }
    if lenOk s.lenchk s.rxLen then (deliver s).succeed
    else s.fail .length .idle 0#9
  else s.fail .integrity .idle 0#9

/-- After phase 6 (R100). -/
def afterRxPayload (s : State) : State := s.openPhase .rxCk finishReceive

/-- After phase 5 (R100): N is now known. -/
def afterRxHdr (s : State) : State := s.openPhase .rxPayload afterRxPayload

/-- The latches of R28 e, set at acceptance (R100). -/
def State.latchMode (s : State) : State := { s with rxModeL := s.ctrl.ckMode, rxExpL := s.rxSrcExpect }

/-- `Receive()` up to its first wait (R100); with LEN_MODE = 3 it fails at once (R101). -/
def runRecv (s : State) : State :=
  let s := s.latchMode
  if s.lenchk.lenMode = .reserved then s.fail .cfg .idle 0#9
  else s.openPhase .rxHdr afterRxHdr

/-- A write of 0x02, 0x03 or 0x04 to CMD (R100, R107, R108, R120). -/
def issueRecv (o : Op) (s : State) : State := admitCommand o runRecv s

/-- RECV (R100). -/
def execRecv (s : State) : Host.Outcome State Fault Refusal := .next (issueRecv .recv s)

/-- RECV_STATUS (R107). -/
def execRecvStatus (s : State) : Host.Outcome State Fault Refusal := .next (issueRecv .recvStatus s)

/-- RECV_DATA (R108). -/
def execRecvData (s : State) : Host.Outcome State Fault Refusal := .next (issueRecv .recvData s)

end Sys2Proof.Machine
end

