-- ==== Sys2Proof/Machine/Send.lean ====
section
/-!
DEFINITION. The serializer: the command SEND (R90 to R95) and its phases.
The procedure of R90 is cut at its waits: each definition is what runs between one wait and the next (R47).
-/

namespace Sys2Proof.Machine

/-- The logical frame SEND sends (R15, R91). -/
def State.txFrame (s : State) : Frame := ⟨s.txHdr.dest, s.ownAddr, s.txHdr.method, s.txPayload⟩

/-- `BuildWire()` (R91). -/
def State.buildWire (s : State) : List Byte := s.txFrame.image s.ctrl.ckMode s.params.crcInit

/-- The wire image is fixed at acceptance, and TX_CK shows its bytes 2 and 4+N (R90, R25). -/
def State.latchWire (s : State) : State :=
  { s with
    wire := s.buildWire
    txCk := ⟨s.buildWire.getD (4 + s.txHdr.len.toNat) 0#8, s.buildWire.getD 2 0#8⟩ }

/-- After the echo's last byte (R93): all bytes are compared with the image as sent. -/
def afterEcho (s : State) : State :=
  if s.echoStg = s.wire then s.succeed else s.fail .echo .echo (BitVec.ofNat 9 (5 + s.txHdr.len.toNat))

/-- After phase 3 (R90, R93): the echo phase if ECHO_EN = 1, else completion. -/
def afterTxCk (s : State) : State :=
  if s.ctrl.echoEn then s.openPhase .echo afterEcho else s.succeed

/-- After phase 2 (R90). -/
def afterTxPayload (s : State) : State := s.openPhase .txCk afterTxCk

/-- After phase 1 (R90). -/
def afterTxHdr (s : State) : State := s.openPhase .txPayload afterTxPayload

/-- SEND's own procedure up to its first wait (R90). -/
def runSend (s : State) : State := s.latchWire.openPhase .txHdr afterTxHdr

/-- A write of 0x01 to CMD (R90, R120). -/
def issueSend (s : State) : State := admitCommand .send runSend s

/-- SEND (R90). -/
def execSend (s : State) : Host.Outcome State Fault Refusal := .next (issueSend s)

end Sys2Proof.Machine
end

