-- ==== Sys2Proof/Machine/Requests.lean ====
section
/-!
DEFINITION. The requests: the seven WIRE_REQ rows of the opcode table, as the host's software issues them (R67, R70).
A request instruction is the first part of the exchange XCHG of R70: the operand writes and SEND.
What follows, waiting for DONE and issuing the receive command, are later turns of the driver software (Driver.lean); the exchange's progress stands in
`driver.exch`.
The payload is what stands in TX_PAYLOAD[0 .. len-1]: a request word holds none.
Wire byte 2 is no operand of the host: SEND computes it (R91), so the operand `src` changes nothing here (assumption 6).
The host's accesses are made one after the other by the one sequential host (R52 e); they are one step here (assumption 7).
-/

namespace Sys2Proof.Machine

/-- The version query's reply: RECV, EXACT, 3 bytes (R137, R138). -/
def versionPlan : ReplyPlan := ⟨.recv, .exact, 3#8⟩
/-- A status reply: RECV_STATUS, NONE, 0 (R139, R141). -/
def statusPlan : ReplyPlan := ⟨.recvStatus, .none, 0#8⟩
/-- The credit reply: RECV, MIN, 16 bytes (R144). -/
def creditPlan : ReplyPlan := ⟨.recv, .min, 16#8⟩

/-- `W TX_HDR (method << 16) or (len << 8) or dest` (R70). -/
def writeTxHdr (dest len method : Byte) (s : State) : State :=
  Reg.txHdr.write (TxHdr.toWord ⟨dest, len, method⟩) s

/-- XCHG's operand writes after the payload (R70): TX_HDR, RX_SRC_EXPECT, LENCHK. -/
def writeOperands (dest len method : Byte) (plan : ReplyPlan) (s : State) : State :=
  Reg.lenchk.write (LenChk.toWord ⟨plan.expLen, plan.lenMode⟩)
    (Reg.rxSrcExpect.write (wordOfByte dest) (writeTxHdr dest len method s))

/-- May a request become the driver's exchange (R146: one exchange at a time)?
Not while one is in progress, nor while the operation that owns the one that ended has yet to take its result (assumption 17). -/
def Driver.freeForExchange (d : Driver) : Bool :=
  match d.exch with
  | .none => true
  | .sending _ | .receiving => false
  | .succeeded | .failed _ => d.job == .idle

/-- The exchange's progress as the software holds it. The exchange of another owner is not given up: its result still reaches that owner (R146). -/
def noteSending (recvOp : Option Op) (s : State) : State :=
  if s.driver.freeForExchange then { s with driver := { s.driver with exch := .sending recvOp } } else s

/-- A request with a documented reply: XCHG of R70 up to and with SEND. -/
def request (dest len method : Byte) (plan : ReplyPlan) (s : State) : State :=
  noteSending (some plan.recvOp) (issueSend (writeOperands dest len method plan s))

/-- M_COMMS_REV (R138). -/
def execMCommsRev (dest len _src : Byte) (s : State) : Host.Outcome State Fault Refusal :=
  .next (request dest len Config.methodCommsRev versionPlan s)

/-- M_RESET (R67): the request is sent. The spec has no reply and no operation for it, so no receive command follows and the reply's registers are not
written (assumption 8). -/
def execMReset (dest len _src : Byte) (s : State) : Host.Outcome State Fault Refusal :=
  .next (noteSending none (issueSend (writeTxHdr dest len Config.methodReset s)))

/-- M_RD_MINH (R139). -/
def execMRdMinh (dest len _src : Byte) (s : State) : Host.Outcome State Fault Refusal :=
  .next (request dest len Config.methodRdMinh statusPlan s)

/-- M_MOD_MINH (R139, R141). -/
def execMModMinh (dest len _src : Byte) (s : State) : Host.Outcome State Fault Refusal :=
  .next (request dest len Config.methodModMinh statusPlan s)

/-- M_RD_CREDIT (R144). -/
def execMRdCredit (dest len _src : Byte) (s : State) : Host.Outcome State Fault Refusal :=
  .next (request dest len Config.methodRdCredit creditPlan s)

/-- M_RD_INH (R139). -/
def execMRdInh (dest len _src : Byte) (s : State) : Host.Outcome State Fault Refusal :=
  .next (request dest len Config.methodRdInh statusPlan s)

/-- M_MOD_INH (R139, R141). -/
def execMModInh (dest len _src : Byte) (s : State) : Host.Outcome State Fault Refusal :=
  .next (request dest len Config.methodModInh statusPlan s)

end Sys2Proof.Machine
end

