-- ==== Sys2Proof/Machine/Dispatch.lean ====
section
/-!
DEFINITION. One arm per instruction of the opcode table.
-/

namespace Sys2Proof.Machine

def exec (i : Instr) (s : State) : Host.Outcome State Fault Refusal :=
  match i with
  | .nop => Sys2Proof.Machine.execNop s
  | .send => Sys2Proof.Machine.execSend s
  | .recv => Sys2Proof.Machine.execRecv s
  | .recvStatus => Sys2Proof.Machine.execRecvStatus s
  | .recvData => Sys2Proof.Machine.execRecvData s
  | .mCommsRev dest len src => Sys2Proof.Machine.execMCommsRev dest len src s
  | .mReset dest len src => Sys2Proof.Machine.execMReset dest len src s
  | .mRdMinh dest len src => Sys2Proof.Machine.execMRdMinh dest len src s
  | .mModMinh dest len src => Sys2Proof.Machine.execMModMinh dest len src s
  | .mRdCredit dest len src => Sys2Proof.Machine.execMRdCredit dest len src s
  | .mRdInh dest len src => Sys2Proof.Machine.execMRdInh dest len src s
  | .mModInh dest len src => Sys2Proof.Machine.execMModInh dest len src s

end Sys2Proof.Machine
end

