-- ==== Sys2Proof/Machine/Driver.lean ====
section
/-!
DEFINITION. The driver software (R4, R135 to R146): scan, set_accept_coins, set_coin_mask, query_credits as sequences of requests, polls of STATUS
and receive commands. Nothing here is state of the block.
One call of `softwareTurn` is one turn of the software: it polls STATUS, or, with the engine idle, makes the accesses up to its next wait (assumption 7).
-/

namespace Sys2Proof.Machine

/-! ### The Device records -/

/-- The Device record of an address. -/
def findDevice : List Device → Byte → Option Device
  | [], _ => none
  | d :: ds, a => if d.address = a then some d else findDevice ds a

/-- Put a Device record in its place, addresses strictly rising; a record of the same address is replaced (R135: one per address). -/
def putDevice : List Device → Device → List Device
  | [], d => [d]
  | x :: ds, d =>
    if d.address.toNat < x.address.toNat then d :: x :: ds
    else if d.address = x.address then d :: ds
    else x :: putDevice ds d

/-- Addresses strictly rising, each at least `lo`. -/
def devicesWfFrom : Nat → List Device → Bool
  | _, [] => true
  | lo, d :: ds => decide (lo ≤ d.address.toNat) && devicesWfFrom (d.address.toNat + 1) ds

/-- The canonical form of the Device records. -/
def devicesWf (ds : List Device) : Bool := devicesWfFrom 0 ds

/-! ### Reading replies (R65) -/

/-- `version = (major << 8) or minor` (R65 a, R137). -/
def versionOf (major minor : Byte) : BitVec 16 := major ++ minor

/-- Slot `k` = 1..5 of a credit reply: value at index 3k-2, sorter at 3k-1, error at 3k (R65 d, R144). -/
def slotOf (p : Nat → Byte) (k : Nat) : Slot := ⟨p (3 * k - 2), p (3 * k - 1), p (3 * k)⟩

/-- The credit reply parsed (R144). -/
def creditOf (p : Nat → Byte) : CreditInfo := ⟨p 0, #v[slotOf p 1, slotOf p 2, slotOf p 3, slotOf p 4, slotOf p 5]⟩

/-- The coin mask as payload: two bytes, little-endian (R49, R65 c). -/
def maskBytes (m : BitVec 16) : List Byte := [m.extractLsb' 0 8, m.extractLsb' 8 8]

/-- The error class of a failed exchange (R146, R156). ERR = 0 is no failure and is never asked for. -/
def CallError.ofErr : ErrCode → CallError
  | .wrTimeout | .rdTimeout | .echo => .transportError
  | .integrity => .integrityError
  | .length => .protocolError
  | .cfg => .configError
  | .none => .deviceStatusError

/-- The successor of the peer's sequence counter after one event (R145): the peer's function, which the driver does not compute. -/
def nextSequence (c : Byte) : Byte := if c = 255#8 then 1#8 else c + 1#8

/-! ### The turns of the software -/

/-- `W TX_PAYLOAD[i] payload[i]` for each `i` (R70), the first at element `i`. -/
def writePayload : Nat → List Byte → State → State
  | _, [], s => s
  | i, b :: bs, s => writePayload (i + 1) bs (Reg.write (.txPayload i) (wordOfByte b) s)

/-- XCHG up to its first wait (R70): the payload, then the request. -/
def startExchange (dest method : Byte) (payload : List Byte) (plan : ReplyPlan) (s : State) : State :=
  request dest (BitVec.ofNat 8 payload.length) method plan (writePayload 0 payload s)

/-- A call returns. -/
def finishCall (r : CallResult) (s : State) : State :=
  { s with driver := { s.driver with exch := .none, job := .idle, result := some r } }

/-- The driver goes on with another job; the exchange that ended is over. -/
def setJob (j : Job) (s : State) : State := { s with driver := { s.driver with exch := .none, job := j } }

/-- The method of probe `k` = 0..3 (R137): the four probes in their fixed order (D27). -/
def probeMethod : Nat → Byte
  | 0 => Config.methodRdMinh
  | 1 => Config.methodModMinh
  | 2 => Config.methodRdInh
  | _ => Config.methodModInh

/-- `Probe` number `k` (R139): an empty payload. -/
def startProbe (a : Byte) (version : BitVec 16) (probes : List Bool) (s : State) : State :=
  startExchange a (probeMethod probes.length) [] statusPlan (setJob (.scanProbe a version probes) s)

/-- The scanned Device (R137): the pairs of probes give the two flags and the mask is all ones. -/
def scannedDevice (a : Byte) (version : BitVec 16) (probes : List Bool) : Device :=
  ⟨a, version, 0xFFFF#16, probes.getD 0 false && probes.getD 1 false, probes.getD 2 false && probes.getD 3 false⟩

/-- After a probe's exchange, whose result is `ok` (R137, R139): the next probe, or the Device. -/
def probeDone (a : Byte) (version : BitVec 16) (probes : List Bool) (ok : Bool) (s : State) : State :=
  let probes := probes ++ [ok]
  if probes.length < 4 then startProbe a version probes s
  else
    let d := scannedDevice a version probes
    finishCall (.scanned d) { s with driver := { s.driver with devices := putDevice s.driver.devices d } }

/-- set_accept_coins for a Device record (R141). -/
def startSetAccept (d : Device) (on : Bool) (s : State) : State :=
  if d.hasMasterInhibit then
    startExchange d.address Config.methodModMinh [if on then 1#8 else 0#8] statusPlan (setJob (.setAccept d.address) s)
  else if d.hasInhibitStatus then
    startExchange d.address Config.methodModInh (maskBytes (if on then d.coinMask else 0x0000#16)) statusPlan (setJob (.setAccept d.address) s)
  else finishCall .success s

/-- A call begins (R137, R141, R143, R144). -/
def startCall (c : Call) (s : State) : State :=
  match c with
  | .scan a => startExchange a Config.methodCommsRev [] versionPlan (setJob (.scanVersion a) s)
  | .setAcceptCoins a on =>
    match findDevice s.driver.devices a with
    | none => finishCall (.failure .noDevice) s
    | some d => startSetAccept d on s
  | .setCoinMask a m =>
    match findDevice s.driver.devices a with
    | none => finishCall (.failure .noDevice) s
    | some d =>
      finishCall .success { s with driver := { s.driver with devices := putDevice s.driver.devices { d with coinMask := m } } }
  | .queryCredits a =>
    match findDevice s.driver.devices a with
    | none => finishCall (.failure .noDevice) s
    | some d => startExchange d.address Config.methodRdCredit [] creditPlan (setJob (.credits d.address) s)

/-- The software goes on when no exchange is in progress: it takes the result of the one that ended, or starts the oldest waiting call. -/
def jobTurn (s : State) : State :=
  match s.driver.job, s.driver.exch with
  | .idle, _ =>
    match s.driver.calls with
    | [] => s
    | c :: cs => startCall c { s with driver := { s.driver with calls := cs } }
  | .scanVersion a, .succeeded => startProbe a (versionOf (s.rxPayloadByte 1) (s.rxPayloadByte 2)) [] s
  | .scanVersion _, .failed e => finishCall (.failure (CallError.ofErr e)) s
  | .scanVersion _, _ => s
  | .scanProbe a v bs, .succeeded => probeDone a v bs (s.result.statusValid && s.result.statusByte == 0#8) s
  | .scanProbe a v bs, .failed _ => probeDone a v bs false s
  | .scanProbe _ _ _, _ => s
  | .setAccept _, .succeeded =>
    if s.result.statusByte = 0#8 then finishCall .success s else finishCall (.failure .deviceStatusError) s
  | .setAccept _, .failed e => finishCall (.failure (CallError.ofErr e)) s
  | .setAccept _, _ => s
  | .credits _, .succeeded => finishCall (.creditInfo (creditOf s.rxPayloadByte)) s
  | .credits _, .failed e => finishCall (.failure (CallError.ofErr e)) s
  | .credits _, _ => s

/-- The exchange's progress. -/
def setExchange (x : Exchange) (s : State) : State := { s with driver := { s.driver with exch := x } }

/-- One turn of the driver software. While an exchange is in progress the turn is a poll: `wait DONE`, then the error, then the next command (R70, R122). -/
def softwareTurn (s : State) : State :=
  match s.driver.exch with
  | .sending next =>
    if s.done then
      (if s.err = .none then
        (match next with
        | some o => issueRecv o (setExchange .receiving s)
        | none => setExchange .succeeded s)
      else setExchange (.failed s.err) s)
    else s
  | .receiving =>
    if s.done then
      (if s.err = .none then setExchange .succeeded s else setExchange (.failed s.err) s)
    else s
  | .none => jobTurn s
  | .succeeded => jobTurn s
  | .failed _ => jobTurn s

/-- The application makes a call: it waits until the driver takes it (R146: one exchange at a time). -/
def enqueueCall (c : Call) (s : State) : State := { s with driver := { s.driver with calls := s.driver.calls ++ [c] } }

end Sys2Proof.Machine
end

