-- ==== Sys2Proof/Machine/Engine.lean ====
section
/-!
DEFINITION. How the engine reacts to the transport's, the timebase's and the reset agent's events (R7, R44, R45, R126, R180).
-/

namespace Sys2Proof.Machine

/-- The transition out of a phase whose last byte has moved (R126, the rows `ok`). -/
def phaseDone (s : State) : State :=
  match s.phase with
  | .idle => s
  | .txHdr => afterTxHdr s
  | .txPayload => afterTxPayload s
  | .txCk => afterTxCk s
  | .echo => afterEcho s
  | .rxHdr => afterRxHdr s
  | .rxPayload => afterRxPayload s
  | .rxCk => finishReceive s

/-- IDX <- IDX + 1, and the primitive succeeds when its last byte has moved (R44, R45). -/
def advance (s : State) : State :=
  let s := { s with idx := s.idx + 1#9 }
  if s.idx.toNat = s.toMove then phaseDone s else s

/-- TxAccept (R44): enabled only while the engine offers a byte; the byte goes to the line and is not taken back. -/
def txAccept (s : State) : State :=
  if s.txValid then advance { s with txLine := s.txLine ++ [s.txData] } else s

/-- The received byte joins the result of the read in progress: the echo (R28 c), or the frame (R28 d). -/
def State.stage (b : Byte) (s : State) : State :=
  match s.phase with
  | .echo => { s with echoStg := s.echoStg ++ [b] }
  | .rxHdr | .rxPayload | .rxCk => { s with rxStg := s.rxStg ++ [b] }
  | .idle | .txHdr | .txPayload | .txCk => s

/-- RxByte (R45): enabled only while the engine needs a byte and the transport holds one; the transport's byte is gone (R50). -/
def rxByte (s : State) : State :=
  match s.rxFifo with
  | [] => s
  | b :: rest => if s.rxReady then advance ({ s with rxFifo := rest }.stage b) else s

/-- Tick (R44, R45, R46): it counts only during a phase, and the phase fails when ELAPSED reaches TIMEOUT_MS. -/
def tick (s : State) : State :=
  if s.phase = .idle then s
  else
    let s := { s with elapsed := s.elapsed + 1#32 }
    if s.elapsed = s.timeoutMs then s.fail s.phase.timeoutErr s.phase s.idx else s

/-- Reset (R180, R181, R131): every register and the sequencer take their reset values and the operation is forgotten without completing.
The transport and the line are not touched (R131); the driver's Device records are discarded (R184), with the call in progress.
The parameters, the value the host last read and the events to come are none of the block's. -/
def resetEvent (s : State) : State :=
  { State.reset with
    rxFifo := s.rxFifo
    txLine := s.txLine
    rdata := s.rdata
    agenda := s.agenda
    params := s.params }

end Sys2Proof.Machine
end

