-- ==== Sys2Proof/Machine/Events.lean ====
section
/-!
DEFINITION. What each event does (R7): the host's accesses (R42, R43, R120), the requests, and the other agents' turns.
-/

namespace Sys2Proof.Machine

/-- A write to CMD is a command (R120): the decoded instruction runs; a reserved opcode sets CMD_ERR (R121 b). -/
def hostCommand (v : Word) (s : State) : Host.Outcome State Fault Refusal :=
  match decodeCmd v with
  | .ok i => exec i s
  | .error _ => .next (reservedCommand s)

/-- An aligned 32-bit write inside the register space (R42). -/
def hostWrite (off : Nat) (v : Word) (s : State) : Host.Outcome State Fault Refusal :=
  match Reg.ofOffset off with
  | .cmd => hostCommand v s
  | r => .next (r.write v s)

/-- An aligned 32-bit read inside the register space (R42): it returns a value and has no other effect. -/
def hostRead (off : Nat) (s : State) : Host.Outcome State Fault Refusal :=
  .next { s with rdata := (Reg.ofOffset off).read s }

/-- Is the access one the spec defines: an aligned 32-bit word (R41, R43)? -/
def accessDefined (size : AccessSize) (off : Nat) : Bool := size == .word && off % 4 == 0

/-- One host access (R42, R43). -/
def hostAccess (a : HostAccess) (s : State) : Host.Outcome State Fault Refusal :=
  match a with
  | .write size off v =>
    if 0x1000 ≤ off then .fault .outsideRegisterSpace
    else if accessDefined size off then hostWrite off v s
    else .refused .undefinedAccess
  | .read size off =>
    if 0x1000 ≤ off then .fault .outsideRegisterSpace
    else if accessDefined size off then hostRead off s
    else .refused .undefinedAccess

/-- The host's software issues a request by its header word (R67). -/
def issueRequest (h : Word) (s : State) : Host.Outcome State Fault Refusal :=
  match decodeRequest h with
  | .ok i => exec i s
  | .error (.unlistedMethod m) => .refused (.unlistedMethod m)
  | .error (.reservedOpcode op) => .refused (.unlistedMethod op)

/-- Bytes still moving in this clock cycle (R190): the stream that is ready at the cycle's start. -/
def cycleTransfer (c : Cycle) (s : State) : State :=
  if c.txReady && s.txValid then txAccept s
  else if c.rxValid && s.rxReady then rxByte s
  else s

/-- "a host W1C of DONE in the cycle of a completion leaves DONE = 1" (R190): the write's bit 1 is dropped if the operation completed in this cycle
(assumption 10). -/
def cycleHost (completed : Bool) (a : HostAccess) : HostAccess :=
  match a with
  | .write size off v => if completed && off == 0x020 then .write size off (v &&& ~~~2#32) else .write size off v
  | .read size off => .read size off

/-- Several inputs in one clock cycle (R190): the byte transfer, then the tick, then the host access; `Reset` overrides everything. -/
def cycleEvent (c : Cycle) (s : State) : Host.Outcome State Fault Refusal :=
  if c.rst then .next (resetEvent s)
  else
    let s' := cycleTransfer c s
    let s' := if c.tick then tick s' else s'
    match c.host with
    | none => .next s'
    | some a => hostAccess (cycleHost (s.busy && !s'.busy) a) s'

/-- What an event does. -/
def handle (e : Event) (s : State) : Host.Outcome State Fault Refusal :=
  match e with
  | .host a => hostAccess a s
  | .request h => issueRequest h s
  | .call c => .next (enqueueCall c s)
  | .software => .next (softwareTurn s)
  | .txAccept => .next (txAccept s)
  | .rxByte => .next (rxByte s)
  | .tick => .next (tick s)
  | .reset => .next (resetEvent s)
  | .arrive b => .next { s with rxFifo := s.rxFifo ++ [b] }
  | .lose n => .next { s with rxFifo := s.rxFifo.eraseIdx n }
  | .cycle c => cycleEvent c s

/-- The next turn of the agenda. With no turn to come nothing happens: the engine moves only in reaction to events (R7). -/
def takeTurn (s : State) : Host.Outcome State Fault Refusal :=
  match s.agenda with
  | [] => .next s
  | e :: rest => handle e { s with agenda := rest }

/-- The event that stands for a table word: a request, or a write to CMD (R66, R67). -/
def fetchEvent (w : Word) : Event :=
  if isRequestWord w then .request w else .host (.write .word 0x01C w)

end Sys2Proof.Machine
end

