-- ==== Sys2Proof/Machine/Step.lean ====
section
/-!
DEFINITION. One step: the next agent's turn (R7).
-/

namespace Sys2Proof.Machine

/-- One step of the machine: one atomic event (R7), with all the work it enables (R47). -/
def step (s : State) : Host.Outcome State Fault Refusal := takeTurn s

/-- The state whose next turn issues the instruction of table word `w`: a program of this hardware is a sequence of host accesses and commands (R2),
and the next one stands at the head of the agenda. -/
def State.withFetchWord (s : State) (nbits w : Nat) : State :=
  { s with agenda := fetchEvent (tableWord nbits w) :: s.agenda }

end Sys2Proof.Machine
end

