-- ==== Sys2Proof/Safety.lean ====
section
/-!
DEFINITION. What a well-behaved state of the CFE is: the invariant the rules promise of every state between two events (R47),
in the pieces the spec speaks of, each decidable; and the measures and views that statements are written with.
-/

namespace Sys2Proof.Machine

/-- Is the phase one of the four SEND runs through (R27)? -/
def Phase.ofSend : Phase → Bool
  | .txHdr | .txPayload | .txCk | .echo => true
  | .idle | .rxHdr | .rxPayload | .rxCk => false

/-- Is the phase one of the three a receive command runs through (R27)? -/
def Phase.ofRecv : Phase → Bool
  | .rxHdr | .rxPayload | .rxCk => true
  | .idle | .txHdr | .txPayload | .txCk | .echo => false

/-- R47, R20, R122: between events the engine is idle with BUSY = 0, or it waits in a phase with bytes to move and time left;
DONE and BUSY are never both 1. -/
abbrev SequencerOk (s : State) : Prop :=
  (s.busy = true ↔ s.phase ≠ .idle) ∧
  ¬(s.busy = true ∧ s.done = true) ∧
  (s.phase = .idle → s.idx = 0#9 ∧ s.elapsed = 0#32) ∧
  (s.phase ≠ .idle → s.idx.toNat < s.toMove ∧ s.elapsed.toNat < s.timeoutMs.toNat)

/-- R27, R28, R54, R101: the operation in progress is the one whose phase it is, and what it latched still equals the locked registers. -/
abbrev OperationOk (s : State) : Prop :=
  (s.phase.ofSend = true → s.op = .send) ∧
  (s.phase = .echo → s.ctrl.echoEn = true) ∧
  (s.phase.ofRecv = true →
    s.op.isRecv = true ∧ s.lenchk.lenMode ≠ .reserved ∧ s.rxModeL = s.ctrl.ckMode ∧ s.rxExpL = s.rxSrcExpect)

/-- R28, R91, R25: while SEND runs, WIRE is the image of the registers and TX_CK shows it; the staging holds exactly the bytes taken so far. -/
abbrev StagingOk (s : State) : Prop :=
  (s.phase.ofSend = true →
    s.wire = s.buildWire ∧ s.txCk = ⟨s.wire.getD (4 + s.txHdr.len.toNat) 0#8, s.wire.getD 2 0#8⟩) ∧
  (s.phase = .echo → s.echoStg.length = s.idx.toNat) ∧
  (s.phase = .rxHdr → s.rxStg.length = s.idx.toNat) ∧
  (s.phase = .rxPayload → s.rxStg.length = 4 + s.idx.toNat) ∧
  (s.phase = .rxCk → s.rxStg.length = 4 + s.rxLen.toNat)

/-- R22, R102: RX_VALID = 1 only over a whole frame that validated in the mode it was received in; while a receive command runs,
and whenever RX_VALID = 0, RESULT is 0. -/
abbrev ViewOk (s : State) : Prop :=
  (s.rxValid = true →
    s.rxStg.length = 5 + s.rxLen.toNat ∧ frameOk s.rxModeL s.params.crcInit s.rxExpL s.rxStg = true) ∧
  (s.phase.ofRecv = true → s.rxValid = false) ∧
  (s.rxValid = false → s.result = Result.zero)

/-- The phases and counts an error code may be recorded with (R155). -/
def errRecordOk (e : ErrCode) (ph : Phase) (cnt : BitVec 9) : Bool :=
  match e with
  | .wrTimeout => ph.isWrite && decide (cnt.toNat < 255)
  | .rdTimeout => ph.isRead && decide (cnt.toNat < 260)
  | .echo => ph == .echo && decide (5 ≤ cnt.toNat) && decide (cnt.toNat ≤ 260)
  | .none | .integrity | .length | .cfg => ph == .idle && cnt == 0#9

/-- R20, R24, R155, R158: what STATUS and RESULT may show together. -/
abbrev ReportOk (s : State) : Prop :=
  errRecordOk s.err s.errPhase s.errCnt = true ∧
  (s.busy = true → s.err = .none) ∧
  (s.err = .integrity ∨ s.err = .cfg → s.rxValid = false) ∧
  (s.err = .length → s.rxValid = true ∧ s.result = Result.zero) ∧
  s.result.devErr = (s.result.statusValid && devErrOf s.result.statusByte) ∧
  (s.result.statusValid = false → s.result = Result.zero)

/-- Is the offset that of an element of TX_PAYLOAD or of DBUF (R18, R26)? -/
def bufferOffset (a : Nat) : Bool :=
  a % 4 == 0 && (decide (0x400 ≤ a ∧ a ≤ 0x7F8) || decide (0xC00 ≤ a ∧ a ≤ 0xFF8))

/-- The buffers are in canonical form and hold nothing outside TX_PAYLOAD and DBUF (R18, R26). -/
abbrev BuffersOk (s : State) : Prop := s.mem.wf = true ∧ ∀ c ∈ s.mem, bufferOffset c.1 = true

/-- R146, R70: the driver's operation under way always has an exchange, in progress or just ended, whose result it will take;
and what follows a SEND is a receive command. -/
abbrev ExchangeOk (s : State) : Prop :=
  (s.driver.job ≠ .idle → s.driver.exch ≠ .none) ∧
  (match s.driver.exch with
    | .sending (some o) => o.isRecv
    | .none | .sending .none | .receiving | .succeeded | .failed _ => true) = true

/-- The invariant of the machine. -/
structure Inv (s : State) : Prop where
  sequencer : SequencerOk s
  operation : OperationOk s
  staging : StagingOk s
  view : ViewOk s
  report : ReportOk s
  buffers : BuffersOk s
  devices : devicesWf s.driver.devices = true
  exchange : ExchangeOk s

/-! ### Measures -/

/-- How many windows the operation can still open, the current one among them (R126, R130). -/
def State.windowsLeft (s : State) : Nat :=
  match s.phase with
  | .idle => 0
  | .txHdr => if s.ctrl.echoEn then 4 else 3
  | .txPayload => if s.ctrl.echoEn then 3 else 2
  | .txCk => if s.ctrl.echoEn then 2 else 1
  | .echo => 1
  | .rxHdr => 3
  | .rxPayload => 2
  | .rxCk => 1

/-- The ticks after which the operation has surely ended (R46, R130): the current window ends by its TIMEOUT_MS-th tick,
and each window before the last one tolerates at most TIMEOUT_MS - 1. -/
def State.tickBudget (s : State) : Nat :=
  if s.phase = .idle then 0
  else (s.timeoutMs.toNat - s.elapsed.toNat) + (s.windowsLeft - 1) * (s.timeoutMs.toNat - 1)

/-- An event of the transport, the line or the timebase: none of the host's, no Reset, no whole cycle. -/
def Event.isLineEvent : Event → Bool
  | .txAccept | .rxByte | .tick | .arrive _ | .lose _ => true
  | .host _ | .request _ | .call _ | .software | .reset | .cycle _ => false

/-- How many `Tick` events a list of events holds. -/
def tickCount : List Event → Nat
  | [] => 0
  | e :: es => (if e = .tick then 1 else 0) + tickCount es

/-- The transitions of the sequencer (R126), with the passing of an empty payload phase in the same step; a step may also leave it where it is. -/
def phaseMove : Phase → Phase → Bool
  | .idle, .idle | .idle, .txHdr | .idle, .rxHdr => true
  | .txHdr, .txHdr | .txHdr, .txPayload | .txHdr, .txCk | .txHdr, .idle => true
  | .txPayload, .txPayload | .txPayload, .txCk | .txPayload, .idle => true
  | .txCk, .txCk | .txCk, .echo | .txCk, .idle => true
  | .echo, .echo | .echo, .idle => true
  | .rxHdr, .rxHdr | .rxHdr, .rxPayload | .rxHdr, .rxCk | .rxHdr, .idle => true
  | .rxPayload, .rxPayload | .rxPayload, .rxCk | .rxPayload, .idle => true
  | .rxCk, .rxCk | .rxCk, .idle => true
  | _, _ => false

/-- `k` steps, stopping at the first fault or refusal. -/
def steps : Nat → State → Host.Outcome State Fault Refusal
  | 0, s => .next s
  | k + 1, s =>
    match step s with
    | .next t => steps k t
    | .fault r => .fault r
    | .refused r => .refused r

/-! ### Views -/

/-- The bits a host write can change in a register (R11 to R18); STATUS, whose two bits are write-one-to-clear, is not asked here. -/
def Reg.writableMask : Reg → Word
  | .ctrl => 0x0000_0007#32
  | .ownAddr => 0x0000_00FF#32
  | .timeoutMs => 0xFFFF_FFFF#32
  | .rxSrcExpect => 0x0000_00FF#32
  | .txHdr => 0x00FF_FFFF#32
  | .lenchk => 0x0000_03FF#32
  | .dbufLen => 0x0000_00FF#32
  | .txPayload _ => 0x0000_00FF#32
  | .cmd | .status | .rxHdr | .rxCk | .result | .txCk | .rxPayload _ | .dbuf _ | .unmapped => 0#32

/-- Is the exchange waiting for the engine (R70)? -/
def Exchange.inProgress : Exchange → Bool
  | .sending _ | .receiving => true
  | .none | .succeeded | .failed _ => false

/-- Does the exchange belong to an owner that has yet to take its result: to whoever waits for it, or to the operation under way (R146)? -/
def Driver.exchangeOwned (d : Driver) : Bool := d.exch.inProgress || (d.exch != .none && d.job != .idle)

/-- The driver after a request has been issued: an owned exchange keeps its place, else the new one has it. -/
def Driver.afterRequest (d : Driver) (recvOp : Option Op) : Driver :=
  if d.exchangeOwned then d else { d with exch := .sending recvOp }

/-- The engine just after SEND has been accepted and waits in its first window (R90, R120): what SEND writes, over the frame `fr`. -/
def State.sending (s : State) (fr : Frame) : State :=
  let w := fr.image s.ctrl.ckMode s.params.crcInit
  { s with
    busy := true, done := false, err := .none, errPhase := .idle, errCnt := 0#9
    op := .send, wire := w, txCk := ⟨w.getD (4 + fr.payload.length) 0#8, w.getD 2 0#8⟩
    phase := .txHdr, idx := 0#9, elapsed := 0#32 }

/-- The engine just after a receive command has been accepted and waits in its first window (R100, R120). -/
def State.receiving (s : State) (o : Op) : State :=
  { s with
    busy := true, done := false, err := .none, errPhase := .idle, errCnt := 0#9
    rxValid := false, result := Result.zero
    op := o, rxModeL := s.ctrl.ckMode, rxExpL := s.rxSrcExpect, rxStg := []
    phase := .rxHdr, idx := 0#9, elapsed := 0#32 }

/-- The completed engine (R123), over what the operation itself wrote before. -/
def State.completed (s : State) (e : ErrCode) (ph : Phase) (cnt : BitVec 9) : State :=
  { s with
    err := e, errPhase := ph, errCnt := cnt
    phase := .idle, idx := 0#9, elapsed := 0#32, busy := false, done := true }

/-- A received frame of which the length byte tells the truth: header, payload, trailing byte (R60). -/
def wireFrame (dest len wire2 hdr : Byte) (payload : List Byte) (trail : Byte) : List Byte :=
  [dest, len, wire2, hdr] ++ payload ++ [trail]

/-- Two states that agree on everything except, perhaps, the hidden state of R28 where no path reads it before writing it:
WIRE outside a SEND, ECHO_STG outside the echo phase, OP when idle, and RX_STG with its two latches when no frame is being received or shown. -/
structure SameButHidden (s t : State) : Prop where
  ctrl : s.ctrl = t.ctrl
  ownAddr : s.ownAddr = t.ownAddr
  timeoutMs : s.timeoutMs = t.timeoutMs
  rxSrcExpect : s.rxSrcExpect = t.rxSrcExpect
  txHdr : s.txHdr = t.txHdr
  lenchk : s.lenchk = t.lenchk
  dbufLen : s.dbufLen = t.dbufLen
  mem : s.mem = t.mem
  busy : s.busy = t.busy
  done : s.done = t.done
  err : s.err = t.err
  rxValid : s.rxValid = t.rxValid
  cmdErr : s.cmdErr = t.cmdErr
  errPhase : s.errPhase = t.errPhase
  errCnt : s.errCnt = t.errCnt
  result : s.result = t.result
  txCk : s.txCk = t.txCk
  phase : s.phase = t.phase
  idx : s.idx = t.idx
  elapsed : s.elapsed = t.elapsed
  rxFifo : s.rxFifo = t.rxFifo
  txLine : s.txLine = t.txLine
  driver : s.driver = t.driver
  rdata : s.rdata = t.rdata
  agenda : s.agenda = t.agenda
  params : s.params = t.params
  op : s.phase ≠ .idle → s.op = t.op
  wire : s.phase.ofSend = true → s.wire = t.wire
  echoStg : s.phase = .echo → s.echoStg = t.echoStg
  rx : s.phase.ofRecv = true ∨ s.rxValid = true → s.rxStg = t.rxStg ∧ s.rxModeL = t.rxModeL ∧ s.rxExpL = t.rxExpL

/-- The registers the host writes are the same (R11 to R17), and so is TX_PAYLOAD (R18). -/
structure SameOperands (s t : State) : Prop where
  ctrl : t.ctrl = s.ctrl
  ownAddr : t.ownAddr = s.ownAddr
  timeoutMs : t.timeoutMs = s.timeoutMs
  rxSrcExpect : t.rxSrcExpect = s.rxSrcExpect
  txHdr : t.txHdr = s.txHdr
  lenchk : t.lenchk = s.lenchk
  dbufLen : t.dbufLen = s.dbufLen
  txPayload : ∀ i, i < 255 → t.txByte i = s.txByte i

/-- What the last receive left for the host is the same: RX_VALID, the RX view, RESULT, and DBUF (R22 to R26). -/
structure SameReceived (s t : State) : Prop where
  rxValid : t.rxValid = s.rxValid
  rxHdr : t.rxHdrWord = s.rxHdrWord
  rxCk : t.rxCkWord = s.rxCkWord
  rxPayload : ∀ i, t.rxPayloadByte i = s.rxPayloadByte i
  result : t.result = s.result
  dbuf : ∀ i, i < 255 → t.dbufByte i = s.dbufByte i

/-- Everything outside the block and the driver is the same, and the events to come: the transport, the line, the last value read, the parameters. -/
structure SameOutside (s t : State) : Prop where
  rxFifo : t.rxFifo = s.rxFifo
  txLine : t.txLine = s.txLine
  rdata : t.rdata = s.rdata
  agenda : t.agenda = s.agenda
  params : t.params = s.params

end Sys2Proof.Machine
end

