-- ==== Sys2Proof/Certificates/Slice0/Obligations.lean ====
section
/-!
DEFINITION. The statements for the provers, in the order of the spec's files: encodings, checksums, registers, commands, the engine, completion and errors,
reset, the machine as a whole, the driver software.
Where a statement rests on a decision of the model and not on a rule, its docstring names the assumption log's entry.
-/

open Sys2Proof Sys2Proof.Machine

/-! ### Encodings (30_encoding.md) -/

/-- R66, R67: decoding the encoded instruction gives it back, for every operand; by the decoder of its own format, and by the table's.
That the table's decoder reads a word with a method code in byte 3 as a request is the model's choice (assumption 5). -/
def Obligations.DecodingAnEncodedInstructionGivesItBack : Prop :=
  ∀ i : Instr,
    (if i.isRequest then decodeRequest (encode i) else decodeCmd (encode i)) = .ok i ∧
    decodeTableWord 32 (encode i).toNat = some i

/-- R66, R68: only bits 7:0 of a word written to CMD count, and exactly 0x05 to 0xFF there are no command. -/
def Obligations.CommandIsTheLowByteAlone : Prop :=
  (∀ v w : Word, v.toNat % 256 = w.toNat % 256 → decodeCmd v = decodeCmd w) ∧
  (∀ v : Word, (∃ e, decodeCmd v = .error e) ↔ 5 ≤ v.toNat % 256)

/-- R67: a request word is read as an instruction exactly when byte 3 is one of the seven method codes, and then it is that instruction's own word.
The spec marks six of the seven codes as unverified (assumption 2). -/
def Obligations.RequestIsMatchedByItsMethodByte : Prop :=
  (∀ (v : Word) (i : Instr), decodeRequest v = .ok i ↔ i.isRequest = true ∧ encode i = v) ∧
  (∀ v : Word, (∃ i, decodeRequest v = .ok i) ↔ v.toNat / 2 ^ 24 ∈ [4, 1, 227, 228, 229, 230, 231])

/-- Words written out from R66, R67 and the spec's own examples (V24, V27, V30, V32, V38, V40, V77, V78) decode to what they stand for. -/
def Obligations.WordsOfTheSpecDecode : Prop :=
  decodeCmd 0x0000_0000#32 = .ok .nop ∧ decodeCmd 0x0000_0100#32 = .ok .nop ∧
  decodeCmd 0x0000_0001#32 = .ok .send ∧ decodeCmd 0x0000_0002#32 = .ok .recv ∧
  decodeCmd 0x0000_0003#32 = .ok .recvStatus ∧ decodeCmd 0x0000_0004#32 = .ok .recvData ∧
  decodeCmd 0x0000_0005#32 = .error (.reservedOpcode 5#8) ∧
  decodeRequest 0x0401_0003#32 = .ok (.mCommsRev 3#8 0#8 1#8) ∧
  decodeRequest 0xE701_0202#32 = .ok (.mModInh 2#8 2#8 1#8) ∧
  decodeRequest 0xE401_0102#32 = .ok (.mModMinh 2#8 1#8 1#8) ∧
  decodeRequest 0xE501_0002#32 = .ok (.mRdCredit 2#8 0#8 1#8) ∧
  decodeRequest 0xE301_0003#32 = .ok (.mRdMinh 3#8 0#8 1#8) ∧
  decodeRequest 0xE601_0003#32 = .ok (.mRdInh 3#8 0#8 1#8) ∧
  decodeRequest 0x0101_0003#32 = .ok (.mReset 3#8 0#8 1#8)

/-- R2, R66, R120: a step runs the decoded instruction, once its turn is taken from the agenda: a write to CMD, a request, and the word `withFetchWord` places.
That a program is the agenda and that a table word with a method code in byte 3 is read as a request are the model's choices (assumptions 3 and 5). -/
def Obligations.StepRunsTheDecodedInstruction : Prop :=
  ∀ (s : State) (rest : List Event) (i : Instr),
    (∀ v, s.agenda = .host (.write .word 0x01C v) :: rest → decodeCmd v = .ok i → step s = exec i { s with agenda := rest }) ∧
    (∀ h, s.agenda = .request h :: rest → decodeRequest h = .ok i → step s = exec i { s with agenda := rest }) ∧
    (∀ nbits w, decodeTableWord nbits w = some i → step (s.withFetchWord nbits w) = exec i s)

/-! ### Checksums (40_checksum.md) -/

/-- R80, whole: the check byte makes the sum a multiple of 256; it is 0 and not 256 on such a sum; the order of the bytes does not matter. -/
def Obligations.SimpleCheckByteMakesTheSumZero : Prop :=
  (∀ s : List Byte, (byteSum s + (ckSimple s).toNat) % 256 = 0) ∧
  (∀ s : List Byte, (ckSimple s).toNat = (256 - byteSum s % 256) % 256) ∧
  (∀ s : List Byte, byteSum s % 256 = 0 → ckSimple s = 0#8) ∧
  (∀ s s' : List Byte, s.Perm s' → ckSimple s = ckSimple s') ∧
  ckSimple [0#8, 0#8, 0#8, 0#8] = 0#8 ∧ ckSimple [0x03#8, 0x00#8, 0x01#8, 0x04#8] = 0xF8#8

/-- R81, whole: validation is the zero sum, which is the check byte's equality; one changed byte is detected, two that cancel are not. -/
def Obligations.SimpleValidationIsTheZeroSum : Prop :=
  (∀ f : List Byte, okSimple f = true ↔ byteSum f % 256 = 0) ∧
  (∀ (body : List Byte) (t : Byte), okSimple (body ++ [t]) = true ↔ ckSimple body = t) ∧
  (∀ (f : List Byte) (i : Nat) (b : Byte), i < f.length → okSimple f = true → b ≠ f.getD i 0#8 → okSimple (f.set i b) = false) ∧
  (∀ (f : List Byte) (i j : Nat) (d : Byte), i < f.length → j < f.length → i ≠ j → okSimple f = true →
    okSimple ((f.set i (f.getD i 0#8 + d)).set j (f.getD j 0#8 - d)) = true) ∧
  okSimple [0#8, 0#8, 0#8, 0#8, 0#8] = true ∧
  okSimple [0x01#8, 0x03#8, 0x03#8, 0x00#8, 0x00#8, 0x01#8, 0x02#8, 0xF6#8] = true

/-- R82: the CRC goes byte by byte, each byte into the high half and then eight shifts; the spec's check values for CRC_INIT = 0 and 0xFFFF.
The spec marks the polynomial and the bit order as unverified (assumption 2). -/
def Obligations.CrcIsComputedByteByByte : Prop :=
  (∀ (c : BitVec 16) (b : Byte), (crcByte c b).toNat = (crcShifts 8 (c ^^^ BitVec.ofNat 16 (b.toNat * 256))).toNat) ∧
  (∀ c : BitVec 16, (crcShift c).toNat = if 0x8000 ≤ c.toNat then ((c.toNat * 2) % 65536) ^^^ 0x1021 else c.toNat * 2) ∧
  (∀ (init : BitVec 16) (s : List Byte) (b : Byte), crc16 init [] = init ∧ crc16 init (s ++ [b]) = crcByte (crc16 init s) b) ∧
  (∀ n : Nat, crc16 0#16 (List.replicate n 0#8) = 0#16) ∧
  crc16 0#16 [0x31#8, 0x32#8, 0x33#8, 0x34#8, 0x35#8, 0x36#8, 0x37#8, 0x38#8, 0x39#8] = 0x31C3#16 ∧
  crc16 0xFFFF#16 [0x31#8, 0x32#8, 0x33#8, 0x34#8, 0x35#8, 0x36#8, 0x37#8, 0x38#8, 0x39#8] = 0x29B1#16 ∧
  crc16 0#16 [0x03#8] = 0x3063#16 ∧ crc16 0#16 [0x03#8, 0x00#8] = 0x5553#16 ∧
  crc16 0#16 [0x03#8, 0x00#8, 0x01#8] = 0x4971#16 ∧ crc16 0#16 [0x03#8, 0x00#8, 0x01#8, 0x04#8] = 0xE869#16

/-- R83, whole: the two halves of the CRC. -/
def Obligations.CrcSplitsIntoLowAndHighByte : Prop :=
  (∀ c : BitVec 16, (crcWire2 c).toNat = c.toNat % 256 ∧ (crcTrail c).toNat = c.toNat / 256) ∧
  crcWire2 0xE869#16 = 0x69#8 ∧ crcTrail 0xE869#16 = 0xE8#8

/-- R84, whole, for every CRC_INIT: both halves are compared; a wrong expected source fails; every change of one byte is detected. -/
def Obligations.CcittValidationDetectsEveryChangedByte : Prop :=
  (∀ (init : BitVec 16) (d n x h : Byte) (p : List Byte) (t e : Byte),
    okCcitt init (wireFrame d n x h p t) e = true ↔
      crcWire2 (crc16 init ([d, n, e, h] ++ p)) = x ∧ crcTrail (crc16 init ([d, n, e, h] ++ p)) = t) ∧
  (∀ (init : BitVec 16) (f : List Byte) (e e' : Byte), 5 ≤ f.length → okCcitt init f e = true → e' ≠ e → okCcitt init f e' = false) ∧
  (∀ (init : BitVec 16) (f : List Byte) (e : Byte) (i : Nat) (b : Byte),
    5 ≤ f.length → i < f.length → okCcitt init f e = true → b ≠ f.getD i 0#8 → okCcitt init (f.set i b) e = false) ∧
  okCcitt 0#16 [0x01#8, 0x03#8, 0x20#8, 0x00#8, 0x00#8, 0x01#8, 0x02#8, 0x8B#8] 0x03#8 = true ∧
  crc16 0#16 [0x01#8, 0x03#8, 0x03#8, 0x00#8, 0x00#8, 0x01#8, 0x02#8] = 0x8B20#16 ∧
  okCcitt 0#16 [0x01#8, 0x03#8, 0x20#8, 0x00#8, 0x00#8, 0x01#8, 0x02#8, 0x8B#8] 0x01#8 = false

/-- R86, whole: an encoded frame validates, in Ccitt mode against its own source, and carries destination, length, header byte and payload. -/
def Obligations.EncodedFramesRoundTrip : Prop :=
  ∀ (init : BitVec 16) (dest src hdr : Byte) (p : List Byte), p.length ≤ 255 →
    okSimple (Frame.image .simple init ⟨dest, src, hdr, p⟩) = true ∧
    okCcitt init (Frame.image .ccitt init ⟨dest, src, hdr, p⟩) src = true ∧
    ∀ mode : CkMode,
      let f := Frame.image mode init ⟨dest, src, hdr, p⟩
      f.length = 5 + p.length ∧ f.getD 0 0#8 = dest ∧ (f.getD 1 0#8).toNat = p.length ∧ f.getD 3 0#8 = hdr ∧
        (f.drop 4).take p.length = p

/-- R87, whole: a valid frame with another trailing byte is invalid, in either mode. -/
def Obligations.CorruptedTrailingByteIsInvalid : Prop :=
  ∀ (mode : CkMode) (init : BitVec 16) (e : Byte) (f : List Byte) (t : Byte),
    5 ≤ f.length → frameOk mode init e f = true → t ≠ f.getD (f.length - 1) 0#8 → frameOk mode init e (f.set (f.length - 1) t) = false

/-! ### The register space (10_state.md, 20_memory.md) -/

/-- R42, R10, R11 to R18: with the engine idle a host write stores the writable bits of its register and nothing else;
a read-only register and an unmapped offset store nothing; every other register reads as before; the sequencer, the hidden state of R28 and what stands outside the block are as before. -/
def Obligations.HostWriteStoresTheWritableBits : Prop :=
  ∀ (s : State) (rest : List Event) (off : Nat) (v : Word),
    s.agenda = .host (.write .word off v) :: rest → off % 4 = 0 → off < 0x1000 → off ≠ 0x01C → off ≠ 0x020 →
    s.busy = false → s.mem.wf = true →
    ∃ t, step s = .next t ∧
      (Reg.ofOffset off).read t =
        ((Reg.ofOffset off).read s &&& ~~~(Reg.ofOffset off).writableMask) ||| (v &&& (Reg.ofOffset off).writableMask) ∧
      (∀ off', off' % 4 = 0 → off' < 0x1000 → off' ≠ off → (Reg.ofOffset off').read t = (Reg.ofOffset off').read s) ∧
      (∀ a, a ≠ off → t.mem.read a = s.mem.read a) ∧
      t.phase = s.phase ∧ t.idx = s.idx ∧ t.elapsed = s.elapsed ∧ t.op = s.op ∧ t.wire = s.wire ∧ t.echoStg = s.echoStg ∧
      t.rxStg = s.rxStg ∧ t.rxModeL = s.rxModeL ∧ t.rxExpL = s.rxExpL ∧ t.driver = s.driver ∧ t.agenda = rest ∧
      t.rxFifo = s.rxFifo ∧ t.txLine = s.txLine ∧ t.rdata = s.rdata ∧ t.params = s.params

/-- R20: a write to STATUS clears DONE and CMD_ERR where the written bit is 1, is never locked, and does nothing else. -/
def Obligations.StatusWriteClearsDoneAndCmdErr : Prop :=
  ∀ (s : State) (rest : List Event) (v : Word), s.agenda = .host (.write .word 0x020 v) :: rest →
    step s = .next { s with
      agenda := rest
      done := s.done && !(v.toNat.testBit 1)
      cmdErr := s.cmdErr && !(v.toNat.testBit 7) }

/-- R54, whole: while BUSY a write to a locked register changes nothing and sets CMD_ERR;
so as long as an operation runs, its operand registers hold the values present at its acceptance. -/
def Obligations.OperandsAreLockedWhileBusy : Prop :=
  (∀ (s : State) (rest : List Event) (off : Nat) (v : Word),
    s.agenda = .host (.write .word off v) :: rest → off % 4 = 0 → off ≤ 0x018 ∨ (0x400 ≤ off ∧ off ≤ 0x7F8) → s.busy = true →
    step s = .next { s with agenda := rest, cmdErr := true }) ∧
  (∀ s t : State, s.busy = true → step s = .next t → t.busy = true → SameOperands s t)

/-- R41, R42, R43: a defined read returns the register's value and changes nothing else; an unmapped offset reads 0 and ignores writes without CMD_ERR;
an access that is not an aligned word is refused, and one outside the 4096 bytes is a fault (the fault is the model's: assumption 11). -/
def Obligations.HostAccessesReadOrStop : Prop :=
  ∀ (s : State) (rest : List Event) (off : Nat),
    (s.agenda = .host (.read .word off) :: rest → off % 4 = 0 → off < 0x1000 →
      step s = .next { s with agenda := rest, rdata := (Reg.ofOffset off).read s }) ∧
    (off % 4 = 0 → (0x034 ≤ off ∧ off ≤ 0x3FF) ∨ off = 0x7FC ∨ off = 0xBFC ∨ off = 0xFFC →
      (Reg.ofOffset off).read s = 0#32 ∧
      ∀ v, s.agenda = .host (.write .word off v) :: rest → step s = .next { s with agenda := rest }) ∧
    (∀ size v, off < 0x1000 → size ≠ .word ∨ off % 4 ≠ 0 →
      (s.agenda = .host (.read size off) :: rest → step s = .refused .undefinedAccess) ∧
      (s.agenda = .host (.write size off v) :: rest → step s = .refused .undefinedAccess)) ∧
    (∀ size v, 0x1000 ≤ off →
      (s.agenda = .host (.read size off) :: rest → step s = .fault .outsideRegisterSpace) ∧
      (s.agenda = .host (.write size off v) :: rest → step s = .fault .outsideRegisterSpace))

/-- R22, R23: the RX view shows the received frame field by field while RX_VALID = 1, and nothing at all while it is 0. -/
def Obligations.RxViewShowsTheFrameOrNothing : Prop :=
  (∀ (s : State) (d n x h : Byte) (p : List Byte) (t : Byte), s.rxValid = true → p.length = n.toNat → s.rxStg = wireFrame d n x h p t →
    ((Reg.ofOffset 0x024).read s).toNat =
      d.toNat + n.toNat * 2 ^ 8 + (match s.rxModeL with | .simple => x | .ccitt => s.rxExpL).toNat * 2 ^ 16 + h.toNat * 2 ^ 24 ∧
    ((Reg.ofOffset 0x028).read s).toNat = t.toNat + x.toNat * 2 ^ 8 ∧
    ∀ i, i < 255 → ((Reg.ofOffset (0x800 + 4 * i)).read s).toNat = (p.getD i 0#8).toNat) ∧
  (∀ s : State, s.rxValid = false →
    (Reg.ofOffset 0x024).read s = 0#32 ∧ (Reg.ofOffset 0x028).read s = 0#32 ∧
    ∀ i, i < 255 → (Reg.ofOffset (0x800 + 4 * i)).read s = 0#32)

/-- R11 to R18, R20, R24 to R27, R155: the fields of every register that has a field of its own stand at their bit positions, reserved bits 0;
the phases and the error codes have their numbers. -/
def Obligations.StatusAndResultFieldPositions : Prop :=
  (∀ s : State,
    ((Reg.ofOffset 0x000).read s).toNat =
      (match s.ctrl.ckMode with | .simple => 0 | .ccitt => 1) + s.ctrl.echoEn.toNat * 2 + s.ctrl.irqEn.toNat * 2 ^ 2 ∧
    ((Reg.ofOffset 0x004).read s).toNat = s.ownAddr.toNat ∧
    ((Reg.ofOffset 0x008).read s).toNat = s.timeoutMs.toNat ∧
    ((Reg.ofOffset 0x00C).read s).toNat = s.rxSrcExpect.toNat ∧
    ((Reg.ofOffset 0x010).read s).toNat = s.txHdr.dest.toNat + s.txHdr.len.toNat * 2 ^ 8 + s.txHdr.method.toNat * 2 ^ 16 ∧
    ((Reg.ofOffset 0x014).read s).toNat =
      s.lenchk.expLen.toNat + (match s.lenchk.lenMode with | .none => 0 | .exact => 1 | .min => 2 | .reserved => 3) * 2 ^ 8 ∧
    ((Reg.ofOffset 0x018).read s).toNat = s.dbufLen.toNat ∧
    ((Reg.ofOffset 0x020).read s).toNat =
      s.busy.toNat + s.done.toNat * 2 + s.err.code.toNat * 2 ^ 2 + s.rxValid.toNat * 2 ^ 6 + s.cmdErr.toNat * 2 ^ 7 +
        s.phase.code.toNat * 2 ^ 8 + s.errPhase.code.toNat * 2 ^ 12 + s.errCnt.toNat * 2 ^ 16 ∧
    ((Reg.ofOffset 0x02C).read s).toNat =
      s.result.statusByte.toNat + s.result.statusValid.toNat * 2 ^ 8 + s.result.devErr.toNat * 2 ^ 9 + s.result.copyLen.toNat * 2 ^ 16 ∧
    ((Reg.ofOffset 0x030).read s).toNat = s.txCk.trail.toNat + s.txCk.wire2.toNat * 2 ^ 8 ∧
    ∀ i, i < 255 →
      ((Reg.ofOffset (0x400 + 4 * i)).read s).toNat = (s.mem.read (0x400 + 4 * i)).toNat ∧
      ((Reg.ofOffset (0xC00 + 4 * i)).read s).toNat = (s.mem.read (0xC00 + 4 * i)).toNat) ∧
  (Phase.idle.code = 0#4 ∧ Phase.txHdr.code = 1#4 ∧ Phase.txPayload.code = 2#4 ∧ Phase.txCk.code = 3#4 ∧ Phase.echo.code = 4#4 ∧
    Phase.rxHdr.code = 5#4 ∧ Phase.rxPayload.code = 6#4 ∧ Phase.rxCk.code = 7#4) ∧
  (ErrCode.none.code = 0#4 ∧ ErrCode.wrTimeout.code = 1#4 ∧ ErrCode.rdTimeout.code = 2#4 ∧ ErrCode.echo.code = 3#4 ∧
    ErrCode.integrity.code = 4#4 ∧ ErrCode.length.code = 5#4 ∧ ErrCode.cfg.code = 6#4)

/-! ### The commands (41_send.md, 42_receive.md, 43_arbiter.md) -/

/-- R124, whole: NOP changes no state, at any time, whatever the ignored bits of the word. -/
def Obligations.NopHasNoEffect : Prop :=
  (∀ s : State, exec .nop s = .next s) ∧
  (∀ (s : State) (rest : List Event) (v : Word), v.toNat % 256 = 0 → s.agenda = .host (.write .word 0x01C v) :: rest →
    step s = .next { s with agenda := rest })

/-- R90, R91, R120: an idle engine with TIMEOUT_MS > 0 accepts SEND and offers the first byte of the wire image. -/
def Obligations.SendStartsTransmitting : Prop :=
  ∀ s : State, s.busy = false → s.timeoutMs ≠ 0#32 →
    exec .send s = .next (s.sending ⟨s.txHdr.dest, s.ownAddr, s.txHdr.method, s.mem.readElems 0x400 s.txHdr.len.toNat⟩) ∧
    (s.sending ⟨s.txHdr.dest, s.ownAddr, s.txHdr.method, s.mem.readElems 0x400 s.txHdr.len.toNat⟩).txValid = true ∧
    (s.sending ⟨s.txHdr.dest, s.ownAddr, s.txHdr.method, s.mem.readElems 0x400 s.txHdr.len.toNat⟩).txData = s.txHdr.dest

/-- R100, R107, R108, R120: an idle engine with TIMEOUT_MS > 0 and LEN_MODE not 3 accepts each of the three receive commands and waits for the header. -/
def Obligations.ReceiveCommandsStartListening : Prop :=
  ∀ s : State, s.busy = false → s.timeoutMs ≠ 0#32 → s.lenchk.lenMode ≠ .reserved →
    exec .recv s = .next (s.receiving .recv) ∧
    exec .recvStatus s = .next (s.receiving .recvStatus) ∧
    exec .recvData s = .next (s.receiving .recvData) ∧
    ∀ o, (s.receiving o).rxReady = true

/-- R95, R113, R120: with TIMEOUT_MS = 0 SEND and the receive commands are accepted and fail in the same step, in their first phase with count 0;
so does the SEND of each of the seven requests, over the registers the request has written, the wire image and TX_CK latched.
That a window of 0 ticks fails on entry is the spec's decision D5.
What a request does beside the rules (the operand `src`, one step, no reply for M_RESET, the exchange's owner) is the model's choice (assumptions 6, 7, 8 and 17). -/
def Obligations.ZeroTimeoutFailsAtAcceptance : Prop :=
  ∀ s : State, s.busy = false → s.timeoutMs = 0#32 →
    exec .send s = .next
      ((s.sending ⟨s.txHdr.dest, s.ownAddr, s.txHdr.method, s.mem.readElems 0x400 s.txHdr.len.toNat⟩).completed .wrTimeout .txHdr 0#9) ∧
    (s.lenchk.lenMode ≠ .reserved →
      exec .recv s = .next ((s.receiving .recv).completed .rdTimeout .rxHdr 0#9) ∧
      exec .recvStatus s = .next ((s.receiving .recvStatus).completed .rdTimeout .rxHdr 0#9) ∧
      exec .recvData s = .next ((s.receiving .recvData).completed .rdTimeout .rxHdr 0#9)) ∧
    ∀ dest len src : Byte,
      let fails (method : Byte) (u : State) : State :=
        (u.sending ⟨dest, s.ownAddr, method, s.mem.readElems 0x400 len.toNat⟩).completed .wrTimeout .txHdr 0#9
      let go (method : Byte) (recvOp : Op) (mode : LenMode) (exp : Byte) : State :=
        fails method { s with
          txHdr := ⟨dest, len, method⟩
          rxSrcExpect := dest
          lenchk := ⟨exp, mode⟩
          driver := s.driver.afterRequest (some recvOp) }
      exec (.mCommsRev dest len src) s = .next (go 4#8 .recv .exact 3#8) ∧
      exec (.mReset dest len src) s = .next
        (fails 1#8 { s with txHdr := ⟨dest, len, 1#8⟩, driver := s.driver.afterRequest none }) ∧
      exec (.mRdMinh dest len src) s = .next (go 227#8 .recvStatus .none 0#8) ∧
      exec (.mModMinh dest len src) s = .next (go 228#8 .recvStatus .none 0#8) ∧
      exec (.mRdCredit dest len src) s = .next (go 229#8 .recv .min 16#8) ∧
      exec (.mRdInh dest len src) s = .next (go 230#8 .recvStatus .none 0#8) ∧
      exec (.mModInh dest len src) s = .next (go 231#8 .recvStatus .none 0#8)

/-- R101, whole: with LEN_MODE = 3 each receive command completes at once with ERR_CFG and reads no byte. -/
def Obligations.ReservedLengthModeFailsAtOnce : Prop :=
  ∀ (s : State) (i : Instr), i = .recv ∨ i = .recvStatus ∨ i = .recvData → s.busy = false → s.lenchk.lenMode = .reserved →
    ∃ t, exec i s = .next t ∧ t.busy = false ∧ t.done = true ∧ t.err = .cfg ∧ t.errPhase = .idle ∧ t.errCnt = 0#9 ∧
      t.rxValid = false ∧ t.result = Result.zero ∧ t.phase = .idle ∧ t.rxFifo = s.rxFifo

/-- R121, whole: the three kinds of refused write change no state except CMD_ERR. -/
def Obligations.RefusedWritesOnlySetCmdErr : Prop :=
  ∀ (s : State) (rest : List Event) (off : Nat) (v : Word), s.agenda = .host (.write .word off v) :: rest →
    (off = 0x01C ∧ 1 ≤ v.toNat % 256 ∧ v.toNat % 256 ≤ 4 ∧ s.busy = true) ∨
    (off = 0x01C ∧ 5 ≤ v.toNat % 256) ∨
    (off % 4 = 0 ∧ (off ≤ 0x018 ∨ (0x400 ≤ off ∧ off ≤ 0x7F8)) ∧ s.busy = true) →
    step s = .next { s with agenda := rest, cmdErr := true }

/-- R90, R100, R109, R124: the frame of the five commands. No operand register, no byte of TX_PAYLOAD or DBUF, neither stream and nothing of the driver changes;
CMD_ERR changes only while BUSY; SEND leaves everything a receive left; a receive command leaves what SEND left. -/
def Obligations.CommandsLeaveTheRestAlone : Prop :=
  ∀ (i : Instr) (s t : State), i.isRequest = false → exec i s = .next t →
    SameOperands s t ∧ SameOutside s t ∧ t.driver = s.driver ∧ (∀ a, t.mem.read a = s.mem.read a) ∧
    (s.busy = false → t.cmdErr = s.cmdErr) ∧
    (i = .nop → t = s) ∧
    (i = .send → SameReceived s t ∧ t.rxStg = s.rxStg ∧ t.rxModeL = s.rxModeL ∧ t.rxExpL = s.rxExpL ∧ t.echoStg = s.echoStg) ∧
    (i = .recv ∨ i = .recvStatus ∨ i = .recvData → t.txCk = s.txCk ∧ t.wire = s.wire ∧ t.echoStg = s.echoStg)

/-! ### The requests (30_encoding.md R67, R70; 44_device_sequences.md) -/

/-- R67, R70, R138, R139, R141, R144: with the engine idle and TIMEOUT_MS > 0, each request with a documented reply writes XCHG's operand registers,
with its method code, its receive command and its length check, and SEND starts.
The operand `src` changes nothing, and the accesses are one step: the model's choices (assumptions 6 and 7);
so is which exchange the driver then waits for (assumption 17). -/
def Obligations.RequestsStartTheirExchange : Prop :=
  ∀ (s : State) (dest len src : Byte), s.busy = false → s.timeoutMs ≠ 0#32 →
    let go (method : Byte) (recvOp : Op) (mode : LenMode) (exp : Byte) : State :=
      { s with
        txHdr := ⟨dest, len, method⟩
        rxSrcExpect := dest
        lenchk := ⟨exp, mode⟩
        driver := s.driver.afterRequest (some recvOp) }.sending
          ⟨dest, s.ownAddr, method, s.mem.readElems 0x400 len.toNat⟩
    exec (.mCommsRev dest len src) s = .next (go 4#8 .recv .exact 3#8) ∧
    exec (.mRdMinh dest len src) s = .next (go 227#8 .recvStatus .none 0#8) ∧
    exec (.mModMinh dest len src) s = .next (go 228#8 .recvStatus .none 0#8) ∧
    exec (.mRdCredit dest len src) s = .next (go 229#8 .recv .min 16#8) ∧
    exec (.mRdInh dest len src) s = .next (go 230#8 .recvStatus .none 0#8) ∧
    exec (.mModInh dest len src) s = .next (go 231#8 .recvStatus .none 0#8)

/-- R67: M_RESET is sent like the others. That nothing is received for it is the model's choice (assumption 8);
so are the unused operand `src`, the one step and the exchange's owner (assumptions 6, 7 and 17). -/
def Obligations.ResetRequestIsOnlySent : Prop :=
  ∀ (s : State) (dest len src : Byte), s.busy = false → s.timeoutMs ≠ 0#32 →
    exec (.mReset dest len src) s = .next
      ({ s with
        txHdr := ⟨dest, len, 1#8⟩
        driver := s.driver.afterRequest none }.sending ⟨dest, s.ownAddr, 1#8, s.mem.readElems 0x400 len.toNat⟩)

/-- R67, R91: the request's word is the header on the wire: bytes 0, 1 and 3 of the image are the word's, byte 2 is the one TX_CK shows,
and in Simple mode it is the host's own address. -/
def Obligations.RequestWordIsTheHeaderOnTheWire : Prop :=
  ∀ (i : Instr) (s t : State), i.isRequest = true → s.busy = false → s.timeoutMs ≠ 0#32 → exec i s = .next t →
    (t.wire.getD 0 0#8).toNat = (encode i).toNat % 256 ∧
    (t.wire.getD 1 0#8).toNat = (encode i).toNat / 2 ^ 8 % 256 ∧
    t.wire.getD 2 0#8 = t.txCk.wire2 ∧
    (t.wire.getD 3 0#8).toNat = (encode i).toNat / 2 ^ 24 ∧
    (s.ctrl.ckMode = .simple → t.txCk.wire2 = s.ownAddr) ∧
    t.wire.length = 5 + (encode i).toNat / 2 ^ 8 % 256

/-- R70, R90: the frame of the seven requests. CTRL, OWN_ADDR, TIMEOUT_MS, DBUF_LEN, both buffers, everything received, both streams and the driver's records
are as before; while BUSY every register is as before.
M_RESET leaves RX_SRC_EXPECT and LENCHK too (assumption 8: the model's choice).
An exchange that its owner still waits for, or whose result the operation under way has yet to take, stays as it is (R146; assumption 17). -/
def Obligations.RequestsLeaveTheRestAlone : Prop :=
  ∀ (i : Instr) (s t : State), i.isRequest = true → exec i s = .next t →
    t.ctrl = s.ctrl ∧ t.ownAddr = s.ownAddr ∧ t.timeoutMs = s.timeoutMs ∧ t.dbufLen = s.dbufLen ∧
    (∀ a, t.mem.read a = s.mem.read a) ∧ SameReceived s t ∧ SameOutside s t ∧
    t.driver.job = s.driver.job ∧ t.driver.calls = s.driver.calls ∧ t.driver.devices = s.driver.devices ∧ t.driver.result = s.driver.result ∧
    (s.busy = false → t.cmdErr = s.cmdErr) ∧
    (∀ dest len src, i = .mReset dest len src → t.rxSrcExpect = s.rxSrcExpect ∧ t.lenchk = s.lenchk) ∧
    (s.busy = true → t = { s with cmdErr := true, driver := t.driver }) ∧
    (s.driver.exch.inProgress = true ∨ (s.driver.job ≠ .idle ∧ s.driver.exch ≠ .none) → t.driver = s.driver)

/-! ### The engine (20_memory.md R44 to R48, 41_send.md, 42_receive.md) -/

/-- R44, R45, R46: a tick in a phase with ticks to spare only counts, the tick that reaches TIMEOUT_MS ends the operation with the phase's timeout error,
the phase and the bytes moved; outside a phase a tick does nothing.
The counting rule and the boundary tick are the spec's decision D5. -/
def Obligations.WindowEndsOnItsLastTick : Prop :=
  ∀ (s : State) (rest : List Event), s.agenda = .tick :: rest →
    (s.phase = .idle → step s = .next { s with agenda := rest }) ∧
    (s.phase ≠ .idle → s.elapsed.toNat + 1 < s.timeoutMs.toNat →
      step s = .next { s with agenda := rest, elapsed := BitVec.ofNat 32 (s.elapsed.toNat + 1) }) ∧
    (s.phase.isWrite = true → s.elapsed.toNat + 1 = s.timeoutMs.toNat →
      step s = .next ({ s with agenda := rest }.completed .wrTimeout s.phase s.idx)) ∧
    (s.phase.isRead = true → s.elapsed.toNat + 1 = s.timeoutMs.toNat →
      step s = .next ({ s with agenda := rest }.completed .rdTimeout s.phase s.idx))

/-- R44, R91: an accepted byte is the next one of the wire image and goes to the line; nothing is taken from the RX stream; while bytes of the phase are left
only IDX moves. Where nothing is offered, TxAccept does nothing (assumption 3: the model's choice for an event that is not enabled). -/
def Obligations.TxAcceptSendsTheNextByteOfTheImage : Prop :=
  ∀ (s : State) (rest : List Event), Inv s → s.agenda = .txAccept :: rest →
    (s.txValid = false → step s = .next { s with agenda := rest }) ∧
    (s.txValid = true → ∃ t, step s = .next t ∧
      t.txLine = s.txLine ++ [s.buildWire.getD ((match s.phase with | .txPayload => 4 | .txCk => 4 + s.txHdr.len.toNat | _ => 0) + s.idx.toNat) 0#8] ∧
      t.rxFifo = s.rxFifo ∧ SameOperands s t ∧ SameReceived s t ∧ t.driver = s.driver ∧ t.txCk = s.txCk ∧ t.cmdErr = s.cmdErr ∧
      (s.idx.toNat + 1 < s.toMove →
        t.phase = s.phase ∧ t.idx.toNat = s.idx.toNat + 1 ∧ t.elapsed = s.elapsed ∧ t.busy = true))

/-- R45, R50: a received byte is the oldest the transport holds, and is gone from there; while bytes of the phase are left it only joins the staging and IDX moves.
Where none is needed or held, RxByte does nothing (assumption 3: the model's choice for an event that is not enabled). -/
def Obligations.RxByteTakesTheOldestByte : Prop :=
  ∀ (s : State) (rest : List Event), Inv s → s.agenda = .rxByte :: rest →
    (s.rxReady = false ∨ s.rxFifo = [] → step s = .next { s with agenda := rest }) ∧
    (∀ b fifo, s.rxReady = true → s.rxFifo = b :: fifo →
      (∃ t, step s = .next t ∧ t.rxFifo = fifo ∧ t.txLine = s.txLine ∧ SameOperands s t ∧ t.driver = s.driver ∧ t.txCk = s.txCk ∧ t.cmdErr = s.cmdErr) ∧
      (s.idx.toNat + 1 < s.toMove →
        step s = .next { s with
          agenda := rest, rxFifo := fifo, idx := BitVec.ofNat 9 (s.idx.toNat + 1)
          echoStg := if s.phase = .echo then s.echoStg ++ [b] else s.echoStg
          rxStg := if s.phase = .echo then s.rxStg else s.rxStg ++ [b] }))

/-- R90, R94, R95: with echo verification off, SEND followed by 5 + N TxAccepts puts exactly the wire image on the line and completes without error. -/
def Obligations.SendPutsTheImageOnTheLine : Prop :=
  ∀ (s : State) (rest : List Event), s.busy = false → s.timeoutMs ≠ 0#32 → s.ctrl.echoEn = false →
    s.agenda = .host (.write .word 0x01C 0x01#32) :: (List.replicate (5 + s.txHdr.len.toNat) .txAccept ++ rest) →
    ∃ t, steps (6 + s.txHdr.len.toNat) s = .next t ∧
      t.txLine = s.txLine ++ Frame.image s.ctrl.ckMode s.params.crcInit
        ⟨s.txHdr.dest, s.ownAddr, s.txHdr.method, s.mem.readElems 0x400 s.txHdr.len.toNat⟩ ∧
      t.busy = false ∧ t.done = true ∧ t.err = .none ∧ t.errPhase = .idle ∧ t.errCnt = 0#9 ∧
      t.rxFifo = s.rxFifo ∧ t.agenda = rest ∧ SameOperands s t ∧ SameReceived s t

/-- R93: with echo verification on, SEND reads 5 + N bytes after the whole image is out, all of them, and succeeds exactly when they are the image as sent;
otherwise ERR_ECHO with phase 4 and count 5 + N. -/
def Obligations.EchoDecidesWhetherSendSucceeds : Prop :=
  ∀ (s : State) (rest : List Event) (echo fifo : List Byte), s.busy = false → s.timeoutMs ≠ 0#32 → s.ctrl.echoEn = true →
    echo.length = 5 + s.txHdr.len.toNat → s.rxFifo = echo ++ fifo →
    s.agenda = .host (.write .word 0x01C 0x01#32) ::
      (List.replicate (5 + s.txHdr.len.toNat) .txAccept ++ (List.replicate (5 + s.txHdr.len.toNat) .rxByte ++ rest)) →
    ∃ t, steps (11 + 2 * s.txHdr.len.toNat) s = .next t ∧
      t.txLine = s.txLine ++ s.buildWire ∧ t.rxFifo = fifo ∧ t.busy = false ∧ t.done = true ∧ t.agenda = rest ∧
      (echo = s.buildWire → t.err = .none ∧ t.errPhase = .idle ∧ t.errCnt = 0#9) ∧
      (echo ≠ s.buildWire → t.err = .echo ∧ t.errPhase = .echo ∧ t.errCnt.toNat = 5 + s.txHdr.len.toNat) ∧
      SameOperands s t ∧ SameReceived s t

/-- R100, R107, R108, R109, R113: each receive command followed by the 5 + N bytes of a frame that validates and passes the length validator takes exactly those bytes,
shows the frame, and delivers what the command delivers: nothing, the status, or the status and the zero-filled truncated copy. -/
def Obligations.ReceiveDeliversAValidFrame : Prop :=
  ∀ (s : State) (rest : List Event) (o : Op) (cmd : Word) (d n x h t : Byte) (p fifo : List Byte),
    (o = .recv ∧ cmd = 2#32) ∨ (o = .recvStatus ∧ cmd = 3#32) ∨ (o = .recvData ∧ cmd = 4#32) →
    s.busy = false → s.timeoutMs ≠ 0#32 → s.lenchk.lenMode ≠ .reserved → s.mem.wf = true →
    p.length = n.toNat → frameOk s.ctrl.ckMode s.params.crcInit s.rxSrcExpect (wireFrame d n x h p t) = true → lenOk s.lenchk n = true →
    s.rxFifo = wireFrame d n x h p t ++ fifo →
    s.agenda = .host (.write .word 0x01C cmd) :: (List.replicate (5 + n.toNat) .rxByte ++ rest) →
    ∃ u, steps (6 + n.toNat) s = .next u ∧
      u.busy = false ∧ u.done = true ∧ u.err = .none ∧ u.errPhase = .idle ∧ u.errCnt = 0#9 ∧ u.rxValid = true ∧
      u.rxStg = wireFrame d n x h p t ∧ u.rxModeL = s.ctrl.ckMode ∧ u.rxExpL = s.rxSrcExpect ∧
      u.rxFifo = fifo ∧ u.txLine = s.txLine ∧ u.agenda = rest ∧ u.txCk = s.txCk ∧ SameOperands s u ∧
      (o = .recv → u.result = Result.zero) ∧
      (o ≠ .recv → u.result.statusByte = h ∧ u.result.statusValid = true ∧ u.result.devErr = decide (h ≠ 0#8)) ∧
      (o ≠ .recvData → u.result.copyLen = 0#8 ∧ ∀ i, i < 255 → u.dbufByte i = s.dbufByte i) ∧
      (o = .recvData → u.result.copyLen.toNat = min n.toNat s.dbufLen.toNat ∧
        ∀ i, i < 255 → u.dbufByte i =
          if i < min n.toNat s.dbufLen.toNat then p.getD i 0#8 else if i < s.dbufLen.toNat then 0#8 else s.dbufByte i)

/-- R105, whole: when the last byte makes a frame that does not validate, the operation ends with ERR_INTEGRITY; all 5 + N bytes are consumed, the length validator
plays no part, and nothing is delivered. -/
def Obligations.BadChecksumDeliversNothing : Prop :=
  ∀ (s : State) (rest : List Event) (b : Byte) (fifo : List Byte), Inv s → s.agenda = .rxByte :: rest → s.phase = .rxCk → s.rxFifo = b :: fifo →
    frameOk s.rxModeL s.params.crcInit s.rxExpL (s.rxStg ++ [b]) = false →
    ∃ t, step s = .next t ∧ t.busy = false ∧ t.done = true ∧ t.err = .integrity ∧ t.errPhase = .idle ∧ t.errCnt = 0#9 ∧
      t.rxValid = false ∧ t.rxHdrWord = 0#32 ∧ t.rxCkWord = 0#32 ∧ (∀ i, t.rxPayloadByte i = 0#8) ∧ t.result = Result.zero ∧
      (∀ a, t.mem.read a = s.mem.read a) ∧ s.rxStg.length + 1 = 5 + s.rxLen.toNat ∧ t.rxFifo = fifo

/-- R106: the length validator's three modes; a frame that validates but fails it ends the operation with ERR_LENGTH, stays visible, and delivers no status and no data. -/
def Obligations.WrongLengthKeepsTheFrameVisible : Prop :=
  (∀ e n : Byte, lenOk ⟨e, .none⟩ n = true ∧ (lenOk ⟨e, .exact⟩ n = true ↔ n = e) ∧ (lenOk ⟨e, .min⟩ n = true ↔ e.toNat ≤ n.toNat)) ∧
  (∀ (s : State) (rest : List Event) (b : Byte) (fifo : List Byte), Inv s → s.agenda = .rxByte :: rest → s.phase = .rxCk → s.rxFifo = b :: fifo →
    frameOk s.rxModeL s.params.crcInit s.rxExpL (s.rxStg ++ [b]) = true → lenOk s.lenchk s.rxLen = false →
    ∃ t, step s = .next t ∧ t.busy = false ∧ t.done = true ∧ t.err = .length ∧ t.errPhase = .idle ∧ t.errCnt = 0#9 ∧
      t.rxValid = true ∧ t.rxStg = s.rxStg ++ [b] ∧ t.result = Result.zero ∧ (∀ a, t.mem.read a = s.mem.read a) ∧ t.rxFifo = fifo)

/-- R107, R109: the last byte of a good frame delivers in the same step: the status byte with STATUS_VALID and DEV_ERR for RECV_STATUS and RECV_DATA,
and for RECV_DATA the copy; every key outside DBUF[0 .. DBUF_LEN-1] reads as before. -/
def Obligations.LastByteDeliversStatusAndCopy : Prop :=
  ∀ (s : State) (rest : List Event) (b : Byte) (fifo : List Byte), Inv s → s.agenda = .rxByte :: rest → s.phase = .rxCk → s.rxFifo = b :: fifo →
    frameOk s.rxModeL s.params.crcInit s.rxExpL (s.rxStg ++ [b]) = true → lenOk s.lenchk s.rxLen = true →
    ∃ t, step s = .next t ∧ t.busy = false ∧ t.done = true ∧ t.err = .none ∧ t.errPhase = .idle ∧ t.errCnt = 0#9 ∧
      t.rxValid = true ∧ t.rxStg = s.rxStg ++ [b] ∧
      (s.op = .recv → t.result = Result.zero) ∧
      (s.op ≠ .recv → t.result.statusByte = s.rxStg.getD 3 0#8 ∧ t.result.statusValid = true ∧ t.result.devErr = decide (s.rxStg.getD 3 0#8 ≠ 0#8)) ∧
      (s.op ≠ .recvData → t.result.copyLen = 0#8 ∧ ∀ a, t.mem.read a = s.mem.read a) ∧
      (s.op = .recvData → t.result.copyLen.toNat = min s.rxLen.toNat s.dbufLen.toNat ∧
        (∀ i, i < s.dbufLen.toNat → t.dbufByte i = if i < s.rxLen.toNat then s.rxStg.getD (4 + i) 0#8 else 0#8) ∧
        ∀ a, (∀ i, i < s.dbufLen.toNat → a ≠ 0xC00 + 4 * i) → t.mem.read a = s.mem.read a)

/-! ### Completion, errors, the interrupt (43_arbiter.md, 60_exceptions.md) -/

/-- R123, R122: a step that ends an operation, other than Reset, sets DONE, leaves the engine idle with the sequencer at 0 and both streams quiet,
and records an error code with a phase and count that go with it (R155).
A whole clock cycle (R190), in which the host may accept the next command at once, is not one event and is left out. -/
def Obligations.CompletionIsOneStep : Prop :=
  ∀ (s t : State) (e : Event) (rest : List Event), Inv s → s.agenda = e :: rest → e ≠ .reset → (∀ c, e ≠ .cycle c) →
    s.busy = true → step s = .next t → t.busy = false →
    t.done = true ∧ t.phase = .idle ∧ t.idx = 0#9 ∧ t.elapsed = 0#32 ∧ t.txValid = false ∧ t.rxReady = false ∧
      errRecordOk t.err t.errPhase t.errCnt = true ∧ t.irq = s.ctrl.irqEn

/-- R158: what a failed operation leaves: the operand registers, CMD_ERR and DBUF as before; after a SEND everything received is as before and TX_CK is that SEND's;
after a receive command RESULT is 0, TX_CK is as before, and the frame is visible only after ERR_LENGTH. -/
def Obligations.FailureLeavesTheRest : Prop :=
  ∀ (s t : State) (e : Event) (rest : List Event), Inv s → s.agenda = e :: rest → e ≠ .reset → (∀ c, e ≠ .cycle c) →
    s.busy = true → step s = .next t → t.busy = false → t.err ≠ .none →
    SameOperands s t ∧ t.cmdErr = s.cmdErr ∧ (∀ a, t.mem.read a = s.mem.read a) ∧ t.txCk = s.txCk ∧
    (s.phase.ofSend = true → SameReceived s t ∧ (t.err = .wrTimeout ∨ t.err = .rdTimeout ∨ t.err = .echo)) ∧
    (s.phase.ofRecv = true → t.result = Result.zero ∧ (t.rxValid = true ↔ t.err = .length) ∧
      (t.err = .rdTimeout ∨ t.err = .integrity ∨ t.err = .length)) ∧
    (t.err = .wrTimeout ∨ t.err = .rdTimeout → t.errPhase = s.phase ∧ t.errCnt = s.idx ∧ t.txLine = s.txLine ∧ t.rxFifo = s.rxFifo)

/-- R127: the two handshakes are never active together, each only in its own phases and neither when idle;
no step moves a byte to the line except from a write phase, and none but the transport's own events touches the bytes it holds except in a read phase. -/
def Obligations.StreamsAreHalfDuplex : Prop :=
  (∀ s : State, ¬(s.txValid = true ∧ s.rxReady = true) ∧
    (s.txValid = true → s.phase = .txHdr ∨ s.phase = .txPayload ∨ s.phase = .txCk) ∧
    (s.rxReady = true → s.phase = .echo ∨ s.phase = .rxHdr ∨ s.phase = .rxPayload ∨ s.phase = .rxCk) ∧
    (s.phase = .idle → s.txValid = false ∧ s.rxReady = false)) ∧
  (∀ (s t : State) (e : Event) (rest : List Event), s.agenda = e :: rest → (∀ b, e ≠ .arrive b) → (∀ n, e ≠ .lose n) → step s = .next t →
    (t.txLine ≠ s.txLine → s.txValid = true ∧ t.rxFifo = s.rxFifo) ∧ (t.rxFifo ≠ s.rxFifo → s.rxReady = true ∧ t.txLine = s.txLine))

/-- R129: no access, request or turn of the host or its software touches an operation in progress; Reset ends it. -/
def Obligations.OnlyResetEndsAnOperationEarly : Prop :=
  (∀ (s t : State) (e : Event) (rest : List Event), s.agenda = e :: rest →
    (∃ a, e = .host a) ∨ (∃ h, e = .request h) ∨ (∃ c, e = .call c) ∨ e = .software →
    s.busy = true → step s = .next t →
    t.busy = true ∧ t.phase = s.phase ∧ t.idx = s.idx ∧ t.elapsed = s.elapsed ∧ t.op = s.op ∧ t.wire = s.wire ∧
      t.echoStg = s.echoStg ∧ t.rxStg = s.rxStg ∧ t.rxModeL = s.rxModeL ∧ t.rxExpL = s.rxExpL ∧ SameOperands s t ∧
      t.rxFifo = s.rxFifo ∧ t.txLine = s.txLine) ∧
  (∀ (s : State) (rest : List Event), s.agenda = .reset :: rest →
    ∃ t, step s = .next t ∧ t.busy = false ∧ t.phase = .idle ∧ t.idx = 0#9 ∧ t.elapsed = 0#32)

/-- R160: `irq` is DONE and IRQ_EN at all times; writing 1 to STATUS bit 1, an accepted command that waits, and Reset clear it.
A step raises it only by completing an operation, which for an idle engine means one that fails as it is accepted,
or by a host write that sets IRQ_EN while DONE = 1. -/
def Obligations.IrqFollowsDone : Prop :=
  (∀ s : State, s.irq = (s.done && s.ctrl.irqEn)) ∧
  (∀ (s : State) (rest : List Event) (v : Word), s.agenda = .host (.write .word 0x020 v) :: rest → v.toNat.testBit 1 = true →
    ∃ t, step s = .next t ∧ t.irq = false) ∧
  (∀ (s : State) (rest : List Event), s.agenda = .reset :: rest → ∃ t, step s = .next t ∧ t.irq = false) ∧
  (∀ (i : Instr) (s t : State), i = .send ∨ i = .recv ∨ i = .recvStatus ∨ i = .recvData → s.busy = false → exec i s = .next t → t.busy = true → t.irq = false) ∧
  (∀ (s t : State) (e : Event) (rest : List Event), Inv s → s.agenda = e :: rest → step s = .next t → s.irq = false → t.irq = true →
    (s.done = false ∧ t.done = true ∧ t.busy = false ∧
      (s.busy = true ∨ (e.isLineEvent = false ∧ (s.timeoutMs = 0#32 ∨ s.lenchk.lenMode = .reserved)))) ∨
    (s.done = true ∧ s.busy = false ∧ ∃ v : Word, v.toNat.testBit 2 = true ∧
      (e = .host (.write .word 0x000 v) ∨ ∃ c : Cycle, e = .cycle c ∧ c.host = some (.write .word 0x000 v))))

/-! ### Reset (70_reset_and_hazards.md) -/

/-- R180, whole: the reset state's registers read as R10's table says, the sequencer is idle and the outputs are 0; and `Reset` brings every state there, at any time.
The spec marks OWN_ADDR's value as unverified (assumption 2). -/
def Obligations.ResetGivesEveryRegisterItsValue : Prop :=
  let isReset (t : State) : Prop :=
    (∀ off, off % 4 = 0 → off < 0x1000 →
      (Reg.ofOffset off).read t = if off = 0x000 then 0x0000_0002#32 else if off = 0x004 then 0x0000_0001#32 else 0x0000_0000#32) ∧
    t.ctrl = ⟨.simple, true, false⟩ ∧ t.lenchk.lenMode = .none ∧
    t.phase = .idle ∧ t.idx = 0#9 ∧ t.elapsed = 0#32 ∧ t.txValid = false ∧ t.rxReady = false ∧ t.irq = false
  isReset State.reset ∧
  ∀ (s : State) (rest : List Event), s.agenda = .reset :: rest → ∃ t, step s = .next t ∧ isReset t

/-- R181, R131: Reset in the middle of an operation: no completion, no error; the line keeps what was sent and the transport what it holds.
That the Device records are discarded with it follows R184 (assumption 16). -/
def Obligations.ResetAbandonsTheOperation : Prop :=
  ∀ (s : State) (rest : List Event), s.agenda = .reset :: rest →
    ∃ t, step s = .next t ∧ t.busy = false ∧ t.done = false ∧ t.err = .none ∧ t.errPhase = .idle ∧ t.errCnt = 0#9 ∧
      t.txLine = s.txLine ∧ t.rxFifo = s.rxFifo ∧ t.params = s.params ∧ t.agenda = rest ∧ t.driver.devices = []

/-! ### The machine as a whole -/

/-- The reset state meets the invariant. -/
def Obligations.ResetMeetsTheInvariant : Prop := Inv State.reset

/-- R47, R20, R22, R27, R28, R91, R155: every step keeps the invariant: idle or waiting with bytes to move and time left, WIRE the image of the locked registers,
the staging as long as the bytes taken, RX_VALID only over a validated frame, error records of R155, the buffers canonical,
and the driver's operation never without an exchange of its own (R146). -/
def Obligations.EveryStepKeepsTheInvariant : Prop :=
  ∀ s t : State, Inv s → step s = .next t → Inv t

/-- R126: the sequencer moves only as the table says, an empty payload phase being passed in the same step; Reset goes to IDLE.
The guards of the table: an operation begins only by an event of the host or its software, a receive only with LEN_MODE other than 3;
a phase goes on to the next only by the transfer of its last byte; the payload phase is passed exactly when it is empty; ECHO follows TX_CK only with ECHO_EN = 1;
and each phase ends the operation only with the outcomes of its rows.
Whole clock cycles (R190) may hold a completion and the next acceptance and are left out. -/
def Obligations.SequencerMovesAsTheTableSays : Prop :=
  ∀ (s t : State) (e : Event) (rest : List Event), Inv s → s.agenda = e :: rest → (∀ c, e ≠ .cycle c) → step s = .next t →
    if e = .reset then t.phase = .idle else
      phaseMove s.phase t.phase = true ∧
      (s.phase = .idle → t.phase ≠ .idle →
        ((∃ a, e = .host a) ∨ (∃ h, e = .request h) ∨ e = .software) ∧ (t.phase = .rxHdr → t.lenchk.lenMode ≠ .reserved)) ∧
      (s.phase ≠ .idle → t.phase ≠ .idle → t.phase ≠ s.phase →
        s.idx.toNat + 1 = s.toMove ∧ e = (if s.phase.isWrite then .txAccept else .rxByte)) ∧
      (s.phase = .txHdr → (t.phase = .txPayload → s.txHdr.len ≠ 0#8) ∧ (t.phase = .txCk → s.txHdr.len = 0#8)) ∧
      (s.phase = .rxHdr → (t.phase = .rxPayload → s.rxStg.getD 1 0#8 ≠ 0#8) ∧ (t.phase = .rxCk → s.rxStg.getD 1 0#8 = 0#8)) ∧
      (s.phase = .txCk → (t.phase = .echo → s.ctrl.echoEn = true) ∧ (t.phase = .idle → t.err = .wrTimeout ∨ (t.err = .none ∧ s.ctrl.echoEn = false))) ∧
      (s.phase = .txHdr ∨ s.phase = .txPayload → t.phase = .idle → t.err = .wrTimeout) ∧
      (s.phase = .echo → t.phase = .idle → t.err = .none ∨ t.err = .echo ∨ t.err = .rdTimeout) ∧
      (s.phase = .rxHdr ∨ s.phase = .rxPayload → t.phase = .idle → t.err = .rdTimeout) ∧
      (s.phase = .rxCk → t.phase = .idle → t.err = .none ∨ t.err = .integrity ∨ t.err = .length ∨ t.err = .rdTimeout)

/-- R130: under events of the line and the timebase with as many ticks to come as the budget says, every operation completes;
the budget is below 4·T for SEND with echo verification and below 3·T otherwise.
The counting rule and the boundary tick are the spec's decision D5. -/
def Obligations.EveryOperationCompletes : Prop :=
  (∀ s : State, Inv s → s.busy = true →
    s.tickBudget < (if s.phase.ofSend = true ∧ s.ctrl.echoEn = true then 4 else 3) * s.timeoutMs.toNat) ∧
  (∀ s : State, Inv s → s.busy = true → (∀ e ∈ s.agenda, e.isLineEvent = true) → s.tickBudget ≤ tickCount s.agenda →
    ∃ k t, k ≤ s.agenda.length ∧ steps k s = .next t ∧ t.busy = false ∧ t.done = true)

/-- R32, R28: the hidden state is unobservable: two states that agree on all but hidden state no path reads first stay so by every step, stop alike,
and every register and output reads the same. -/
def Obligations.HiddenStateIsUnobservable : Prop :=
  ∀ s t : State, SameButHidden s t →
    (∀ r : Reg, r.read s = r.read t) ∧ s.irq = t.irq ∧ s.txValid = t.txValid ∧ s.rxReady = t.rxReady ∧
    (s.txValid = true → s.txData = t.txData) ∧
    (∀ s', step s = .next s' → ∃ t', step t = .next t' ∧ SameButHidden s' t') ∧
    (∀ f, step s = .fault f → step t = .fault f) ∧ (∀ r, step s = .refused r → step t = .refused r)

/-- R53, R191: between completion and the next acceptance nothing of the results changes: an event of the line or the timebase, a call not yet taken,
a host read, or a host write elsewhere than to CMD leaves STATUS's error fields, TX_CK and everything received as they are. -/
def Obligations.ResultsAreStableUntilTheNextCommand : Prop :=
  ∀ (s t : State) (e : Event) (rest : List Event), Inv s → s.busy = false → s.agenda = e :: rest →
    e.isLineEvent = true ∨ (∃ c, e = .call c) ∨ (∃ z off, e = .host (.read z off)) ∨ (∃ z off v, e = .host (.write z off v) ∧ off ≠ 0x01C) →
    step s = .next t →
    t.busy = false ∧ t.err = s.err ∧ t.errPhase = s.errPhase ∧ t.errCnt = s.errCnt ∧ t.txCk = s.txCk ∧ SameReceived s t

/-- R18, R19, R21: no event of the line or the timebase writes an operand register, TX_PAYLOAD, CMD_ERR or anything of the software. -/
def Obligations.EngineNeverWritesTheOperands : Prop :=
  ∀ (s t : State) (e : Event) (rest : List Event), s.agenda = e :: rest → e.isLineEvent = true → step s = .next t →
    SameOperands s t ∧ t.cmdErr = s.cmdErr ∧ t.driver = s.driver ∧ t.rdata = s.rdata ∧ t.params = s.params ∧ t.agenda = rest

/-- R190: in one clock cycle the byte transfer comes before the tick and the tick before the host access; Reset overrides everything;
a host read sees the completed state, a command written in the cycle of completion is accepted, and clearing DONE in that cycle leaves DONE = 1 (assumption 10).
The order is the spec's decision D25.
Which byte moves, at most one, on the stream ready at the cycle's start and the oldest held, is read from R127 and R190 (assumption 22). -/
def Obligations.EventsOfOneCycleAreOrdered : Prop :=
  ∀ (s : State) (rest : List Event) (c : Cycle), s.agenda = .cycle c :: rest →
    let s0 : State := { s with agenda := rest }
    let moved : State :=
      if c.txReady && s.txValid then txAccept s0 else if c.rxValid && s.rxReady then rxByte s0 else s0
    let ticked : State := if c.tick then tick moved else moved
    (c.rst = true → step s = step { s with agenda := .reset :: rest }) ∧
    (c.rst = false → c.host = none → step s = .next ticked) ∧
    (∀ off, c.rst = false → c.host = some (.read .word off) → off % 4 = 0 → off < 0x1000 →
      step s = .next { ticked with rdata := (Reg.ofOffset off).read ticked }) ∧
    (∀ v, c.rst = false → c.host = some (.write .word 0x020 v) → s.busy = true → ticked.busy = false →
      ∃ t, step s = .next t ∧ t.done = ticked.done) ∧
    (c.rst = false → c.host = some (.write .word 0x01C 0x01#32) → ticked.busy = false → ticked.timeoutMs ≠ 0#32 →
      ∃ t, step s = .next t ∧ t.busy = true ∧ t.op = .send)

/-! ### The driver software (44_device_sequences.md) -/

/-- R70: a turn of the software in an exchange: it waits for DONE; an error fails the exchange; after SEND it issues the exchange's receive command,
which waits, or fails at once with LEN_MODE = 3 (R101) or TIMEOUT_MS = 0 (R113); and after that the exchange has not failed.
One turn of the software is one step, and an exchange without a reply, M_RESET's, ends with its SEND: the model's choices (assumptions 7 and 8). -/
def Obligations.ExchangeWaitsThenReceives : Prop :=
  ∀ (s : State) (rest : List Event), s.agenda = .software :: rest →
    (s.driver.exch.inProgress = true → s.done = false → step s = .next { s with agenda := rest }) ∧
    (s.driver.exch.inProgress = true → s.done = true → s.err ≠ .none →
      step s = .next { s with agenda := rest, driver := { s.driver with exch := .failed s.err } }) ∧
    (∀ o, s.driver.exch = .sending (some o) → o.isRecv = true → s.done = true → s.err = .none → s.busy = false →
      let u : State := { s with agenda := rest, driver := { s.driver with exch := .receiving } }
      (s.timeoutMs ≠ 0#32 → s.lenchk.lenMode ≠ .reserved → step s = .next (u.receiving o)) ∧
      (s.lenchk.lenMode = .reserved → step s = .next (State.completed { u.receiving o with rxStg := s.rxStg } .cfg .idle 0#9)) ∧
      (s.timeoutMs = 0#32 → s.lenchk.lenMode ≠ .reserved → step s = .next ((u.receiving o).completed .rdTimeout .rxHdr 0#9))) ∧
    (s.driver.exch = .sending none ∨ s.driver.exch = .receiving → s.done = true → s.err = .none →
      step s = .next { s with agenda := rest, driver := { s.driver with exch := .succeeded } })

/-- R137, R138, R139, R140: scan asks for the version with an EXACT-3 reply; a failed version query creates no Device; the four probes are sent in order
whatever the earlier ones returned; after the fourth the Device is there, with the mask all ones and each flag the conjunction of its pair,
so that four failed probes give both flags false.
That all four probes are sent, and in this order, is the spec's decision D27; each is sent with an empty payload and awaited by RECV_STATUS without length check.
One turn of the software is one step, and a second scan of an address replaces its record: the model's choices (assumptions 7 and 21). -/
def Obligations.ScanBuildsTheDevice : Prop :=
  ∀ (s : State) (rest : List Event) (a : Byte), s.agenda = .software :: rest →
    (∀ cs, s.driver.job = .idle → s.driver.exch.inProgress = false → s.driver.calls = .scan a :: cs → s.busy = false → s.timeoutMs ≠ 0#32 →
      ∃ t, step s = .next t ∧ t.txHdr = ⟨a, 0#8, 4#8⟩ ∧ t.rxSrcExpect = a ∧ t.lenchk = ⟨3#8, .exact⟩ ∧ t.phase = .txHdr ∧ t.busy = true ∧
        t.driver.job = .scanVersion a ∧ t.driver.exch = .sending (some .recv) ∧ t.driver.calls = cs ∧ t.driver.devices = s.driver.devices) ∧
    (∀ e, s.driver.job = .scanVersion a → s.driver.exch = .failed e →
      step s = .next { s with
        agenda := rest
        driver := { s.driver with exch := .none, job := .idle, result := some (.failure (CallError.ofErr e)) } }) ∧
    (s.driver.job = .scanVersion a → s.driver.exch = .succeeded → s.busy = false → s.timeoutMs ≠ 0#32 →
      ∃ t v, step s = .next t ∧ t.driver.job = .scanProbe a v [] ∧ v.toNat = (s.rxPayloadByte 1).toNat * 256 + (s.rxPayloadByte 2).toNat ∧
        t.txHdr = ⟨a, 0#8, 227#8⟩ ∧ t.rxSrcExpect = a ∧ t.lenchk = ⟨0#8, .none⟩ ∧ t.driver.exch = .sending (some .recvStatus) ∧ t.phase = .txHdr) ∧
    (∀ v probes ok, s.driver.job = .scanProbe a v probes → s.driver.exch = .succeeded ∨ (∃ e, s.driver.exch = .failed e) →
      (ok = true ↔ s.driver.exch = .succeeded ∧ s.result.statusValid = true ∧ s.result.statusByte = 0#8) →
      (probes.length < 3 → s.busy = false → s.timeoutMs ≠ 0#32 →
        ∃ t, step s = .next t ∧ t.driver.job = .scanProbe a v (probes ++ [ok]) ∧ t.phase = .txHdr ∧
          t.rxSrcExpect = a ∧ t.lenchk = ⟨0#8, .none⟩ ∧ t.driver.exch = .sending (some .recvStatus) ∧
          t.txHdr = ⟨a, 0#8, ([227#8, 228#8, 230#8, 231#8] : List Byte).getD (probes.length + 1) 0#8⟩) ∧
      (∀ p0 p1 p2, probes = [p0, p1, p2] →
        ∃ t, step s = .next t ∧ t.driver.result = some (.scanned ⟨a, v, 0xFFFF#16, p0 && p1, p2 && ok⟩) ∧
          findDevice t.driver.devices a = some ⟨a, v, 0xFFFF#16, p0 && p1, p2 && ok⟩ ∧ t.driver.job = .idle ∧ t.txLine = s.txLine))

/-- R141: set_accept_coins prefers the master inhibit, with one payload byte 1 or 0; else the inhibit status with the mask, or 0, little-endian.
It returns success exactly when the exchange did not fail and STATUS_BYTE = 0; else a DeviceStatusError, or the class of the exchange's error (R146, R156).
One turn of the software is one step, and ERR_CFG's class is the model's own: the model's choices (assumptions 7 and 25). -/
def Obligations.SetAcceptCoinsChoosesItsCommand : Prop :=
  (∀ (s : State) (rest : List Event) (a : Byte) (on : Bool) (d : Device) (cs : List Call),
    s.agenda = .software :: rest → s.driver.job = .idle → s.driver.exch.inProgress = false → s.driver.calls = .setAcceptCoins a on :: cs →
    findDevice s.driver.devices a = some d → s.busy = false → s.timeoutMs ≠ 0#32 → s.mem.wf = true →
    (d.hasMasterInhibit = true →
      ∃ t, step s = .next t ∧ t.txHdr = ⟨a, 1#8, 228#8⟩ ∧ t.txByte 0 = (if on then 1#8 else 0#8) ∧ t.phase = .txHdr ∧
        t.rxSrcExpect = a ∧ t.lenchk.lenMode = .none ∧ t.driver.exch = .sending (some .recvStatus) ∧ t.driver.job = .setAccept a ∧ t.driver.calls = cs) ∧
    (d.hasMasterInhibit = false → d.hasInhibitStatus = true →
      ∃ t, step s = .next t ∧ t.txHdr = ⟨a, 2#8, 231#8⟩ ∧ t.phase = .txHdr ∧
        (t.txByte 0).toNat + (t.txByte 1).toNat * 256 = (if on then d.coinMask else 0#16).toNat ∧
        t.rxSrcExpect = a ∧ t.lenchk.lenMode = .none ∧ t.driver.exch = .sending (some .recvStatus) ∧ t.driver.job = .setAccept a ∧ t.driver.calls = cs)) ∧
  (∀ (s : State) (rest : List Event) (a : Byte), s.agenda = .software :: rest → s.driver.job = .setAccept a →
    let returns (r : CallResult) : Prop :=
      step s = .next { s with agenda := rest, driver := { s.driver with exch := .none, job := .idle, result := some r } }
    (s.driver.exch = .succeeded → s.result.statusByte = 0#8 → returns .success) ∧
    (s.driver.exch = .succeeded → s.result.statusByte ≠ 0#8 → returns (.failure .deviceStatusError)) ∧
    (∀ e, s.driver.exch = .failed e → returns (.failure (CallError.ofErr e)))) ∧
  (CallError.ofErr .wrTimeout = .transportError ∧ CallError.ofErr .rdTimeout = .transportError ∧ CallError.ofErr .echo = .transportError ∧
    CallError.ofErr .integrity = .integrityError ∧ CallError.ofErr .length = .protocolError ∧ CallError.ofErr .cfg = .configError)

/-- R142, whole: without either capability set_accept_coins reports success, makes no access and sends nothing. -/
def Obligations.SetAcceptCoinsWithoutCapabilitySendsNothing : Prop :=
  ∀ (s : State) (rest : List Event) (a : Byte) (on : Bool) (d : Device) (cs : List Call),
    s.agenda = .software :: rest → s.driver.job = .idle → s.driver.exch.inProgress = false → s.driver.calls = .setAcceptCoins a on :: cs →
    findDevice s.driver.devices a = some d → d.hasMasterInhibit = false → d.hasInhibitStatus = false →
    step s = .next { s with
      agenda := rest
      driver := { s.driver with exch := .none, job := .idle, calls := cs, result := some .success } }

/-- R143: set_coin_mask updates the record, issues no command and reports success.
That nothing is sent, also to a device that has the masking capability, is the spec's reading, its decision D28. -/
def Obligations.SetCoinMaskIsLocal : Prop :=
  ∀ (s : State) (rest : List Event) (a : Byte) (m : BitVec 16) (d : Device) (cs : List Call),
    s.agenda = .software :: rest → s.driver.job = .idle → s.driver.exch.inProgress = false → s.driver.calls = .setCoinMask a m :: cs →
    findDevice s.driver.devices a = some d →
    ∃ t, step s = .next t ∧ t = { s with agenda := rest, driver := t.driver } ∧ t.driver.result = some .success ∧ t.driver.calls = cs ∧
      findDevice t.driver.devices a = some { d with coinMask := m } ∧
      (∀ b, b ≠ a → findDevice t.driver.devices b = findDevice s.driver.devices b)

/-- R144, R65: query_credits asks with an empty payload for at least 16 bytes; the reply is parsed into the sequence counter and five slots;
a failed exchange is a failure, of the class of its error (R146).
One turn of the software is one step: the model's choice (assumption 7). -/
def Obligations.QueryCreditsParsesTheReply : Prop :=
  ∀ (s : State) (rest : List Event) (a : Byte), s.agenda = .software :: rest →
    (∀ (d : Device) (cs : List Call), s.driver.job = .idle → s.driver.exch.inProgress = false → s.driver.calls = .queryCredits a :: cs →
      findDevice s.driver.devices a = some d → s.busy = false → s.timeoutMs ≠ 0#32 →
      ∃ t, step s = .next t ∧ t.txHdr = ⟨a, 0#8, 229#8⟩ ∧ t.rxSrcExpect = a ∧ t.lenchk = ⟨16#8, .min⟩ ∧ t.phase = .txHdr ∧ t.busy = true ∧
        t.driver.job = .credits a ∧ t.driver.exch = .sending (some .recv) ∧ t.driver.calls = cs ∧ t.driver.devices = s.driver.devices) ∧
    (s.driver.job = .credits a → s.driver.exch = .succeeded →
      ∃ c : CreditInfo,
        step s = .next { s with agenda := rest, driver := { s.driver with exch := .none, job := .idle, result := some (.creditInfo c) } } ∧
        c.sequence = s.rxPayloadByte 0 ∧
        ∀ k : Fin 5, c.slots[k] = ⟨s.rxPayloadByte (3 * k.val + 1), s.rxPayloadByte (3 * k.val + 2), s.rxPayloadByte (3 * k.val + 3)⟩) ∧
    (∀ e, s.driver.job = .credits a → s.driver.exch = .failed e →
      step s = .next { s with
        agenda := rest
        driver := { s.driver with exch := .none, job := .idle, result := some (.failure (CallError.ofErr e)) } })

/-- R145: the successor of the sequence counter: `s + 1`, and 1 after 255; it never revisits 0. -/
def Obligations.SequenceCounterSkipsZero : Prop :=
  ∀ c : Byte, (c.toNat < 255 → (nextSequence c).toNat = c.toNat + 1) ∧ (c = 255#8 → nextSequence c = 1#8) ∧ nextSequence c ≠ 0#8
end

