-- ==== Sys2Proof/Laws/State.lean ====
section
/-!
SUPPORT. One lemma per field and update, true by `rfl`, so that no later proof unfolds a record update.
-/

namespace Sys2Proof.Machine

/-- Taking an error is a completion (R157). -/
@[simp] theorem State.fail_eq_complete (e : ErrCode) (ph : Phase) (cnt : BitVec 9) (s : State) : s.fail e ph cnt = s.complete e ph cnt := rfl

/-- Success is a completion with ERR = 0 (R123). -/
@[simp] theorem State.succeed_eq_complete (s : State) : s.succeed = s.complete .none .idle 0#9 := rfl

/-! #### `State.setCmdErr`: R121 -/

@[simp] theorem State.setCmdErr_ctrl (s : State) : (s.setCmdErr).ctrl = s.ctrl := rfl
@[simp] theorem State.setCmdErr_ownAddr (s : State) : (s.setCmdErr).ownAddr = s.ownAddr := rfl
@[simp] theorem State.setCmdErr_timeoutMs (s : State) : (s.setCmdErr).timeoutMs = s.timeoutMs := rfl
@[simp] theorem State.setCmdErr_rxSrcExpect (s : State) : (s.setCmdErr).rxSrcExpect = s.rxSrcExpect := rfl
@[simp] theorem State.setCmdErr_txHdr (s : State) : (s.setCmdErr).txHdr = s.txHdr := rfl
@[simp] theorem State.setCmdErr_lenchk (s : State) : (s.setCmdErr).lenchk = s.lenchk := rfl
@[simp] theorem State.setCmdErr_dbufLen (s : State) : (s.setCmdErr).dbufLen = s.dbufLen := rfl
@[simp] theorem State.setCmdErr_mem (s : State) : (s.setCmdErr).mem = s.mem := rfl
@[simp] theorem State.setCmdErr_busy (s : State) : (s.setCmdErr).busy = s.busy := rfl
@[simp] theorem State.setCmdErr_done (s : State) : (s.setCmdErr).done = s.done := rfl
@[simp] theorem State.setCmdErr_err (s : State) : (s.setCmdErr).err = s.err := rfl
@[simp] theorem State.setCmdErr_rxValid (s : State) : (s.setCmdErr).rxValid = s.rxValid := rfl
@[simp] theorem State.setCmdErr_cmdErr (s : State) : (s.setCmdErr).cmdErr = true := rfl
@[simp] theorem State.setCmdErr_errPhase (s : State) : (s.setCmdErr).errPhase = s.errPhase := rfl
@[simp] theorem State.setCmdErr_errCnt (s : State) : (s.setCmdErr).errCnt = s.errCnt := rfl
@[simp] theorem State.setCmdErr_result (s : State) : (s.setCmdErr).result = s.result := rfl
@[simp] theorem State.setCmdErr_txCk (s : State) : (s.setCmdErr).txCk = s.txCk := rfl
@[simp] theorem State.setCmdErr_phase (s : State) : (s.setCmdErr).phase = s.phase := rfl
@[simp] theorem State.setCmdErr_idx (s : State) : (s.setCmdErr).idx = s.idx := rfl
@[simp] theorem State.setCmdErr_elapsed (s : State) : (s.setCmdErr).elapsed = s.elapsed := rfl
@[simp] theorem State.setCmdErr_op (s : State) : (s.setCmdErr).op = s.op := rfl
@[simp] theorem State.setCmdErr_wire (s : State) : (s.setCmdErr).wire = s.wire := rfl
@[simp] theorem State.setCmdErr_echoStg (s : State) : (s.setCmdErr).echoStg = s.echoStg := rfl
@[simp] theorem State.setCmdErr_rxStg (s : State) : (s.setCmdErr).rxStg = s.rxStg := rfl
@[simp] theorem State.setCmdErr_rxModeL (s : State) : (s.setCmdErr).rxModeL = s.rxModeL := rfl
@[simp] theorem State.setCmdErr_rxExpL (s : State) : (s.setCmdErr).rxExpL = s.rxExpL := rfl
@[simp] theorem State.setCmdErr_rxFifo (s : State) : (s.setCmdErr).rxFifo = s.rxFifo := rfl
@[simp] theorem State.setCmdErr_txLine (s : State) : (s.setCmdErr).txLine = s.txLine := rfl
@[simp] theorem State.setCmdErr_driver (s : State) : (s.setCmdErr).driver = s.driver := rfl
@[simp] theorem State.setCmdErr_rdata (s : State) : (s.setCmdErr).rdata = s.rdata := rfl
@[simp] theorem State.setCmdErr_agenda (s : State) : (s.setCmdErr).agenda = s.agenda := rfl
@[simp] theorem State.setCmdErr_params (s : State) : (s.setCmdErr).params = s.params := rfl

/-! #### `State.complete`: R123 -/

@[simp] theorem State.complete_ctrl (e : ErrCode) (ph : Phase) (cnt : BitVec 9) (s : State) : (s.complete e ph cnt).ctrl = s.ctrl := rfl
@[simp] theorem State.complete_ownAddr (e : ErrCode) (ph : Phase) (cnt : BitVec 9) (s : State) : (s.complete e ph cnt).ownAddr = s.ownAddr := rfl
@[simp] theorem State.complete_timeoutMs (e : ErrCode) (ph : Phase) (cnt : BitVec 9) (s : State) : (s.complete e ph cnt).timeoutMs = s.timeoutMs := rfl
@[simp] theorem State.complete_rxSrcExpect (e : ErrCode) (ph : Phase) (cnt : BitVec 9) (s : State) : (s.complete e ph cnt).rxSrcExpect = s.rxSrcExpect := rfl
@[simp] theorem State.complete_txHdr (e : ErrCode) (ph : Phase) (cnt : BitVec 9) (s : State) : (s.complete e ph cnt).txHdr = s.txHdr := rfl
@[simp] theorem State.complete_lenchk (e : ErrCode) (ph : Phase) (cnt : BitVec 9) (s : State) : (s.complete e ph cnt).lenchk = s.lenchk := rfl
@[simp] theorem State.complete_dbufLen (e : ErrCode) (ph : Phase) (cnt : BitVec 9) (s : State) : (s.complete e ph cnt).dbufLen = s.dbufLen := rfl
@[simp] theorem State.complete_mem (e : ErrCode) (ph : Phase) (cnt : BitVec 9) (s : State) : (s.complete e ph cnt).mem = s.mem := rfl
@[simp] theorem State.complete_busy (e : ErrCode) (ph : Phase) (cnt : BitVec 9) (s : State) : (s.complete e ph cnt).busy = false := rfl
@[simp] theorem State.complete_done (e : ErrCode) (ph : Phase) (cnt : BitVec 9) (s : State) : (s.complete e ph cnt).done = true := rfl
@[simp] theorem State.complete_err (e : ErrCode) (ph : Phase) (cnt : BitVec 9) (s : State) : (s.complete e ph cnt).err = e := rfl
@[simp] theorem State.complete_rxValid (e : ErrCode) (ph : Phase) (cnt : BitVec 9) (s : State) : (s.complete e ph cnt).rxValid = s.rxValid := rfl
@[simp] theorem State.complete_cmdErr (e : ErrCode) (ph : Phase) (cnt : BitVec 9) (s : State) : (s.complete e ph cnt).cmdErr = s.cmdErr := rfl
@[simp] theorem State.complete_errPhase (e : ErrCode) (ph : Phase) (cnt : BitVec 9) (s : State) : (s.complete e ph cnt).errPhase = ph := rfl
@[simp] theorem State.complete_errCnt (e : ErrCode) (ph : Phase) (cnt : BitVec 9) (s : State) : (s.complete e ph cnt).errCnt = cnt := rfl
@[simp] theorem State.complete_result (e : ErrCode) (ph : Phase) (cnt : BitVec 9) (s : State) : (s.complete e ph cnt).result = s.result := rfl
@[simp] theorem State.complete_txCk (e : ErrCode) (ph : Phase) (cnt : BitVec 9) (s : State) : (s.complete e ph cnt).txCk = s.txCk := rfl
@[simp] theorem State.complete_phase (e : ErrCode) (ph : Phase) (cnt : BitVec 9) (s : State) : (s.complete e ph cnt).phase = .idle := rfl
@[simp] theorem State.complete_idx (e : ErrCode) (ph : Phase) (cnt : BitVec 9) (s : State) : (s.complete e ph cnt).idx = 0#9 := rfl
@[simp] theorem State.complete_elapsed (e : ErrCode) (ph : Phase) (cnt : BitVec 9) (s : State) : (s.complete e ph cnt).elapsed = 0#32 := rfl
@[simp] theorem State.complete_op (e : ErrCode) (ph : Phase) (cnt : BitVec 9) (s : State) : (s.complete e ph cnt).op = s.op := rfl
@[simp] theorem State.complete_wire (e : ErrCode) (ph : Phase) (cnt : BitVec 9) (s : State) : (s.complete e ph cnt).wire = s.wire := rfl
@[simp] theorem State.complete_echoStg (e : ErrCode) (ph : Phase) (cnt : BitVec 9) (s : State) : (s.complete e ph cnt).echoStg = s.echoStg := rfl
@[simp] theorem State.complete_rxStg (e : ErrCode) (ph : Phase) (cnt : BitVec 9) (s : State) : (s.complete e ph cnt).rxStg = s.rxStg := rfl
@[simp] theorem State.complete_rxModeL (e : ErrCode) (ph : Phase) (cnt : BitVec 9) (s : State) : (s.complete e ph cnt).rxModeL = s.rxModeL := rfl
@[simp] theorem State.complete_rxExpL (e : ErrCode) (ph : Phase) (cnt : BitVec 9) (s : State) : (s.complete e ph cnt).rxExpL = s.rxExpL := rfl
@[simp] theorem State.complete_rxFifo (e : ErrCode) (ph : Phase) (cnt : BitVec 9) (s : State) : (s.complete e ph cnt).rxFifo = s.rxFifo := rfl
@[simp] theorem State.complete_txLine (e : ErrCode) (ph : Phase) (cnt : BitVec 9) (s : State) : (s.complete e ph cnt).txLine = s.txLine := rfl
@[simp] theorem State.complete_driver (e : ErrCode) (ph : Phase) (cnt : BitVec 9) (s : State) : (s.complete e ph cnt).driver = s.driver := rfl
@[simp] theorem State.complete_rdata (e : ErrCode) (ph : Phase) (cnt : BitVec 9) (s : State) : (s.complete e ph cnt).rdata = s.rdata := rfl
@[simp] theorem State.complete_agenda (e : ErrCode) (ph : Phase) (cnt : BitVec 9) (s : State) : (s.complete e ph cnt).agenda = s.agenda := rfl
@[simp] theorem State.complete_params (e : ErrCode) (ph : Phase) (cnt : BitVec 9) (s : State) : (s.complete e ph cnt).params = s.params := rfl

/-! #### `State.accept`: R120 -/

@[simp] theorem State.accept_ctrl (o : Op) (s : State) : (s.accept o).ctrl = s.ctrl := rfl
@[simp] theorem State.accept_ownAddr (o : Op) (s : State) : (s.accept o).ownAddr = s.ownAddr := rfl
@[simp] theorem State.accept_timeoutMs (o : Op) (s : State) : (s.accept o).timeoutMs = s.timeoutMs := rfl
@[simp] theorem State.accept_rxSrcExpect (o : Op) (s : State) : (s.accept o).rxSrcExpect = s.rxSrcExpect := rfl
@[simp] theorem State.accept_txHdr (o : Op) (s : State) : (s.accept o).txHdr = s.txHdr := rfl
@[simp] theorem State.accept_lenchk (o : Op) (s : State) : (s.accept o).lenchk = s.lenchk := rfl
@[simp] theorem State.accept_dbufLen (o : Op) (s : State) : (s.accept o).dbufLen = s.dbufLen := rfl
@[simp] theorem State.accept_mem (o : Op) (s : State) : (s.accept o).mem = s.mem := rfl
@[simp] theorem State.accept_busy (o : Op) (s : State) : (s.accept o).busy = true := rfl
@[simp] theorem State.accept_done (o : Op) (s : State) : (s.accept o).done = false := rfl
@[simp] theorem State.accept_err (o : Op) (s : State) : (s.accept o).err = .none := rfl
@[simp] theorem State.accept_rxValid (o : Op) (s : State) : (s.accept o).rxValid = (if o.isRecv then false else s.rxValid) := rfl
@[simp] theorem State.accept_cmdErr (o : Op) (s : State) : (s.accept o).cmdErr = s.cmdErr := rfl
@[simp] theorem State.accept_errPhase (o : Op) (s : State) : (s.accept o).errPhase = .idle := rfl
@[simp] theorem State.accept_errCnt (o : Op) (s : State) : (s.accept o).errCnt = 0#9 := rfl
@[simp] theorem State.accept_result (o : Op) (s : State) : (s.accept o).result = (if o.isRecv then Result.zero else s.result) := rfl
@[simp] theorem State.accept_txCk (o : Op) (s : State) : (s.accept o).txCk = s.txCk := rfl
@[simp] theorem State.accept_phase (o : Op) (s : State) : (s.accept o).phase = s.phase := rfl
@[simp] theorem State.accept_idx (o : Op) (s : State) : (s.accept o).idx = s.idx := rfl
@[simp] theorem State.accept_elapsed (o : Op) (s : State) : (s.accept o).elapsed = s.elapsed := rfl
@[simp] theorem State.accept_op (o : Op) (s : State) : (s.accept o).op = o := rfl
@[simp] theorem State.accept_wire (o : Op) (s : State) : (s.accept o).wire = s.wire := rfl
@[simp] theorem State.accept_echoStg (o : Op) (s : State) : (s.accept o).echoStg = s.echoStg := rfl
@[simp] theorem State.accept_rxStg (o : Op) (s : State) : (s.accept o).rxStg = s.rxStg := rfl
@[simp] theorem State.accept_rxModeL (o : Op) (s : State) : (s.accept o).rxModeL = s.rxModeL := rfl
@[simp] theorem State.accept_rxExpL (o : Op) (s : State) : (s.accept o).rxExpL = s.rxExpL := rfl
@[simp] theorem State.accept_rxFifo (o : Op) (s : State) : (s.accept o).rxFifo = s.rxFifo := rfl
@[simp] theorem State.accept_txLine (o : Op) (s : State) : (s.accept o).txLine = s.txLine := rfl
@[simp] theorem State.accept_driver (o : Op) (s : State) : (s.accept o).driver = s.driver := rfl
@[simp] theorem State.accept_rdata (o : Op) (s : State) : (s.accept o).rdata = s.rdata := rfl
@[simp] theorem State.accept_agenda (o : Op) (s : State) : (s.accept o).agenda = s.agenda := rfl
@[simp] theorem State.accept_params (o : Op) (s : State) : (s.accept o).params = s.params := rfl

/-! #### `State.beginPhase`: R44, R45 -/

@[simp] theorem State.beginPhase_ctrl (p : Phase) (s : State) : (s.beginPhase p).ctrl = s.ctrl := rfl
@[simp] theorem State.beginPhase_ownAddr (p : Phase) (s : State) : (s.beginPhase p).ownAddr = s.ownAddr := rfl
@[simp] theorem State.beginPhase_timeoutMs (p : Phase) (s : State) : (s.beginPhase p).timeoutMs = s.timeoutMs := rfl
@[simp] theorem State.beginPhase_rxSrcExpect (p : Phase) (s : State) : (s.beginPhase p).rxSrcExpect = s.rxSrcExpect := rfl
@[simp] theorem State.beginPhase_txHdr (p : Phase) (s : State) : (s.beginPhase p).txHdr = s.txHdr := rfl
@[simp] theorem State.beginPhase_lenchk (p : Phase) (s : State) : (s.beginPhase p).lenchk = s.lenchk := rfl
@[simp] theorem State.beginPhase_dbufLen (p : Phase) (s : State) : (s.beginPhase p).dbufLen = s.dbufLen := rfl
@[simp] theorem State.beginPhase_mem (p : Phase) (s : State) : (s.beginPhase p).mem = s.mem := rfl
@[simp] theorem State.beginPhase_busy (p : Phase) (s : State) : (s.beginPhase p).busy = s.busy := rfl
@[simp] theorem State.beginPhase_done (p : Phase) (s : State) : (s.beginPhase p).done = s.done := rfl
@[simp] theorem State.beginPhase_err (p : Phase) (s : State) : (s.beginPhase p).err = s.err := rfl
@[simp] theorem State.beginPhase_rxValid (p : Phase) (s : State) : (s.beginPhase p).rxValid = s.rxValid := rfl
@[simp] theorem State.beginPhase_cmdErr (p : Phase) (s : State) : (s.beginPhase p).cmdErr = s.cmdErr := rfl
@[simp] theorem State.beginPhase_errPhase (p : Phase) (s : State) : (s.beginPhase p).errPhase = s.errPhase := rfl
@[simp] theorem State.beginPhase_errCnt (p : Phase) (s : State) : (s.beginPhase p).errCnt = s.errCnt := rfl
@[simp] theorem State.beginPhase_result (p : Phase) (s : State) : (s.beginPhase p).result = s.result := rfl
@[simp] theorem State.beginPhase_txCk (p : Phase) (s : State) : (s.beginPhase p).txCk = s.txCk := rfl
@[simp] theorem State.beginPhase_phase (p : Phase) (s : State) : (s.beginPhase p).phase = p := rfl
@[simp] theorem State.beginPhase_idx (p : Phase) (s : State) : (s.beginPhase p).idx = 0#9 := rfl
@[simp] theorem State.beginPhase_elapsed (p : Phase) (s : State) : (s.beginPhase p).elapsed = 0#32 := rfl
@[simp] theorem State.beginPhase_op (p : Phase) (s : State) : (s.beginPhase p).op = s.op := rfl
@[simp] theorem State.beginPhase_wire (p : Phase) (s : State) : (s.beginPhase p).wire = s.wire := rfl
@[simp] theorem State.beginPhase_echoStg (p : Phase) (s : State) : (s.beginPhase p).echoStg = (if p = .echo then [] else s.echoStg) := rfl
@[simp] theorem State.beginPhase_rxStg (p : Phase) (s : State) : (s.beginPhase p).rxStg = (if p = .rxHdr then [] else s.rxStg) := rfl
@[simp] theorem State.beginPhase_rxModeL (p : Phase) (s : State) : (s.beginPhase p).rxModeL = s.rxModeL := rfl
@[simp] theorem State.beginPhase_rxExpL (p : Phase) (s : State) : (s.beginPhase p).rxExpL = s.rxExpL := rfl
@[simp] theorem State.beginPhase_rxFifo (p : Phase) (s : State) : (s.beginPhase p).rxFifo = s.rxFifo := rfl
@[simp] theorem State.beginPhase_txLine (p : Phase) (s : State) : (s.beginPhase p).txLine = s.txLine := rfl
@[simp] theorem State.beginPhase_driver (p : Phase) (s : State) : (s.beginPhase p).driver = s.driver := rfl
@[simp] theorem State.beginPhase_rdata (p : Phase) (s : State) : (s.beginPhase p).rdata = s.rdata := rfl
@[simp] theorem State.beginPhase_agenda (p : Phase) (s : State) : (s.beginPhase p).agenda = s.agenda := rfl
@[simp] theorem State.beginPhase_params (p : Phase) (s : State) : (s.beginPhase p).params = s.params := rfl

/-! #### `State.latchWire`: R91, R25 -/

@[simp] theorem State.latchWire_ctrl (s : State) : (s.latchWire).ctrl = s.ctrl := rfl
@[simp] theorem State.latchWire_ownAddr (s : State) : (s.latchWire).ownAddr = s.ownAddr := rfl
@[simp] theorem State.latchWire_timeoutMs (s : State) : (s.latchWire).timeoutMs = s.timeoutMs := rfl
@[simp] theorem State.latchWire_rxSrcExpect (s : State) : (s.latchWire).rxSrcExpect = s.rxSrcExpect := rfl
@[simp] theorem State.latchWire_txHdr (s : State) : (s.latchWire).txHdr = s.txHdr := rfl
@[simp] theorem State.latchWire_lenchk (s : State) : (s.latchWire).lenchk = s.lenchk := rfl
@[simp] theorem State.latchWire_dbufLen (s : State) : (s.latchWire).dbufLen = s.dbufLen := rfl
@[simp] theorem State.latchWire_mem (s : State) : (s.latchWire).mem = s.mem := rfl
@[simp] theorem State.latchWire_busy (s : State) : (s.latchWire).busy = s.busy := rfl
@[simp] theorem State.latchWire_done (s : State) : (s.latchWire).done = s.done := rfl
@[simp] theorem State.latchWire_err (s : State) : (s.latchWire).err = s.err := rfl
@[simp] theorem State.latchWire_rxValid (s : State) : (s.latchWire).rxValid = s.rxValid := rfl
@[simp] theorem State.latchWire_cmdErr (s : State) : (s.latchWire).cmdErr = s.cmdErr := rfl
@[simp] theorem State.latchWire_errPhase (s : State) : (s.latchWire).errPhase = s.errPhase := rfl
@[simp] theorem State.latchWire_errCnt (s : State) : (s.latchWire).errCnt = s.errCnt := rfl
@[simp] theorem State.latchWire_result (s : State) : (s.latchWire).result = s.result := rfl
@[simp] theorem State.latchWire_txCk (s : State) : (s.latchWire).txCk = ⟨s.buildWire.getD (4 + s.txHdr.len.toNat) 0#8, s.buildWire.getD 2 0#8⟩ := rfl
@[simp] theorem State.latchWire_phase (s : State) : (s.latchWire).phase = s.phase := rfl
@[simp] theorem State.latchWire_idx (s : State) : (s.latchWire).idx = s.idx := rfl
@[simp] theorem State.latchWire_elapsed (s : State) : (s.latchWire).elapsed = s.elapsed := rfl
@[simp] theorem State.latchWire_op (s : State) : (s.latchWire).op = s.op := rfl
@[simp] theorem State.latchWire_wire (s : State) : (s.latchWire).wire = s.buildWire := rfl
@[simp] theorem State.latchWire_echoStg (s : State) : (s.latchWire).echoStg = s.echoStg := rfl
@[simp] theorem State.latchWire_rxStg (s : State) : (s.latchWire).rxStg = s.rxStg := rfl
@[simp] theorem State.latchWire_rxModeL (s : State) : (s.latchWire).rxModeL = s.rxModeL := rfl
@[simp] theorem State.latchWire_rxExpL (s : State) : (s.latchWire).rxExpL = s.rxExpL := rfl
@[simp] theorem State.latchWire_rxFifo (s : State) : (s.latchWire).rxFifo = s.rxFifo := rfl
@[simp] theorem State.latchWire_txLine (s : State) : (s.latchWire).txLine = s.txLine := rfl
@[simp] theorem State.latchWire_driver (s : State) : (s.latchWire).driver = s.driver := rfl
@[simp] theorem State.latchWire_rdata (s : State) : (s.latchWire).rdata = s.rdata := rfl
@[simp] theorem State.latchWire_agenda (s : State) : (s.latchWire).agenda = s.agenda := rfl
@[simp] theorem State.latchWire_params (s : State) : (s.latchWire).params = s.params := rfl

/-! #### `State.latchMode`: R100, R28 -/

@[simp] theorem State.latchMode_ctrl (s : State) : (s.latchMode).ctrl = s.ctrl := rfl
@[simp] theorem State.latchMode_ownAddr (s : State) : (s.latchMode).ownAddr = s.ownAddr := rfl
@[simp] theorem State.latchMode_timeoutMs (s : State) : (s.latchMode).timeoutMs = s.timeoutMs := rfl
@[simp] theorem State.latchMode_rxSrcExpect (s : State) : (s.latchMode).rxSrcExpect = s.rxSrcExpect := rfl
@[simp] theorem State.latchMode_txHdr (s : State) : (s.latchMode).txHdr = s.txHdr := rfl
@[simp] theorem State.latchMode_lenchk (s : State) : (s.latchMode).lenchk = s.lenchk := rfl
@[simp] theorem State.latchMode_dbufLen (s : State) : (s.latchMode).dbufLen = s.dbufLen := rfl
@[simp] theorem State.latchMode_mem (s : State) : (s.latchMode).mem = s.mem := rfl
@[simp] theorem State.latchMode_busy (s : State) : (s.latchMode).busy = s.busy := rfl
@[simp] theorem State.latchMode_done (s : State) : (s.latchMode).done = s.done := rfl
@[simp] theorem State.latchMode_err (s : State) : (s.latchMode).err = s.err := rfl
@[simp] theorem State.latchMode_rxValid (s : State) : (s.latchMode).rxValid = s.rxValid := rfl
@[simp] theorem State.latchMode_cmdErr (s : State) : (s.latchMode).cmdErr = s.cmdErr := rfl
@[simp] theorem State.latchMode_errPhase (s : State) : (s.latchMode).errPhase = s.errPhase := rfl
@[simp] theorem State.latchMode_errCnt (s : State) : (s.latchMode).errCnt = s.errCnt := rfl
@[simp] theorem State.latchMode_result (s : State) : (s.latchMode).result = s.result := rfl
@[simp] theorem State.latchMode_txCk (s : State) : (s.latchMode).txCk = s.txCk := rfl
@[simp] theorem State.latchMode_phase (s : State) : (s.latchMode).phase = s.phase := rfl
@[simp] theorem State.latchMode_idx (s : State) : (s.latchMode).idx = s.idx := rfl
@[simp] theorem State.latchMode_elapsed (s : State) : (s.latchMode).elapsed = s.elapsed := rfl
@[simp] theorem State.latchMode_op (s : State) : (s.latchMode).op = s.op := rfl
@[simp] theorem State.latchMode_wire (s : State) : (s.latchMode).wire = s.wire := rfl
@[simp] theorem State.latchMode_echoStg (s : State) : (s.latchMode).echoStg = s.echoStg := rfl
@[simp] theorem State.latchMode_rxStg (s : State) : (s.latchMode).rxStg = s.rxStg := rfl
@[simp] theorem State.latchMode_rxModeL (s : State) : (s.latchMode).rxModeL = s.ctrl.ckMode := rfl
@[simp] theorem State.latchMode_rxExpL (s : State) : (s.latchMode).rxExpL = s.rxSrcExpect := rfl
@[simp] theorem State.latchMode_rxFifo (s : State) : (s.latchMode).rxFifo = s.rxFifo := rfl
@[simp] theorem State.latchMode_txLine (s : State) : (s.latchMode).txLine = s.txLine := rfl
@[simp] theorem State.latchMode_driver (s : State) : (s.latchMode).driver = s.driver := rfl
@[simp] theorem State.latchMode_rdata (s : State) : (s.latchMode).rdata = s.rdata := rfl
@[simp] theorem State.latchMode_agenda (s : State) : (s.latchMode).agenda = s.agenda := rfl
@[simp] theorem State.latchMode_params (s : State) : (s.latchMode).params = s.params := rfl

/-! #### `setExchange`: R70 -/

@[simp] theorem setExchange_ctrl (x : Exchange) (s : State) : (setExchange x s).ctrl = s.ctrl := rfl
@[simp] theorem setExchange_ownAddr (x : Exchange) (s : State) : (setExchange x s).ownAddr = s.ownAddr := rfl
@[simp] theorem setExchange_timeoutMs (x : Exchange) (s : State) : (setExchange x s).timeoutMs = s.timeoutMs := rfl
@[simp] theorem setExchange_rxSrcExpect (x : Exchange) (s : State) : (setExchange x s).rxSrcExpect = s.rxSrcExpect := rfl
@[simp] theorem setExchange_txHdr (x : Exchange) (s : State) : (setExchange x s).txHdr = s.txHdr := rfl
@[simp] theorem setExchange_lenchk (x : Exchange) (s : State) : (setExchange x s).lenchk = s.lenchk := rfl
@[simp] theorem setExchange_dbufLen (x : Exchange) (s : State) : (setExchange x s).dbufLen = s.dbufLen := rfl
@[simp] theorem setExchange_mem (x : Exchange) (s : State) : (setExchange x s).mem = s.mem := rfl
@[simp] theorem setExchange_busy (x : Exchange) (s : State) : (setExchange x s).busy = s.busy := rfl
@[simp] theorem setExchange_done (x : Exchange) (s : State) : (setExchange x s).done = s.done := rfl
@[simp] theorem setExchange_err (x : Exchange) (s : State) : (setExchange x s).err = s.err := rfl
@[simp] theorem setExchange_rxValid (x : Exchange) (s : State) : (setExchange x s).rxValid = s.rxValid := rfl
@[simp] theorem setExchange_cmdErr (x : Exchange) (s : State) : (setExchange x s).cmdErr = s.cmdErr := rfl
@[simp] theorem setExchange_errPhase (x : Exchange) (s : State) : (setExchange x s).errPhase = s.errPhase := rfl
@[simp] theorem setExchange_errCnt (x : Exchange) (s : State) : (setExchange x s).errCnt = s.errCnt := rfl
@[simp] theorem setExchange_result (x : Exchange) (s : State) : (setExchange x s).result = s.result := rfl
@[simp] theorem setExchange_txCk (x : Exchange) (s : State) : (setExchange x s).txCk = s.txCk := rfl
@[simp] theorem setExchange_phase (x : Exchange) (s : State) : (setExchange x s).phase = s.phase := rfl
@[simp] theorem setExchange_idx (x : Exchange) (s : State) : (setExchange x s).idx = s.idx := rfl
@[simp] theorem setExchange_elapsed (x : Exchange) (s : State) : (setExchange x s).elapsed = s.elapsed := rfl
@[simp] theorem setExchange_op (x : Exchange) (s : State) : (setExchange x s).op = s.op := rfl
@[simp] theorem setExchange_wire (x : Exchange) (s : State) : (setExchange x s).wire = s.wire := rfl
@[simp] theorem setExchange_echoStg (x : Exchange) (s : State) : (setExchange x s).echoStg = s.echoStg := rfl
@[simp] theorem setExchange_rxStg (x : Exchange) (s : State) : (setExchange x s).rxStg = s.rxStg := rfl
@[simp] theorem setExchange_rxModeL (x : Exchange) (s : State) : (setExchange x s).rxModeL = s.rxModeL := rfl
@[simp] theorem setExchange_rxExpL (x : Exchange) (s : State) : (setExchange x s).rxExpL = s.rxExpL := rfl
@[simp] theorem setExchange_rxFifo (x : Exchange) (s : State) : (setExchange x s).rxFifo = s.rxFifo := rfl
@[simp] theorem setExchange_txLine (x : Exchange) (s : State) : (setExchange x s).txLine = s.txLine := rfl
@[simp] theorem setExchange_driver (x : Exchange) (s : State) : (setExchange x s).driver = { s.driver with exch := x } := rfl
@[simp] theorem setExchange_rdata (x : Exchange) (s : State) : (setExchange x s).rdata = s.rdata := rfl
@[simp] theorem setExchange_agenda (x : Exchange) (s : State) : (setExchange x s).agenda = s.agenda := rfl
@[simp] theorem setExchange_params (x : Exchange) (s : State) : (setExchange x s).params = s.params := rfl

/-! #### `setJob`: R137 -/

@[simp] theorem setJob_ctrl (j : Job) (s : State) : (setJob j s).ctrl = s.ctrl := rfl
@[simp] theorem setJob_ownAddr (j : Job) (s : State) : (setJob j s).ownAddr = s.ownAddr := rfl
@[simp] theorem setJob_timeoutMs (j : Job) (s : State) : (setJob j s).timeoutMs = s.timeoutMs := rfl
@[simp] theorem setJob_rxSrcExpect (j : Job) (s : State) : (setJob j s).rxSrcExpect = s.rxSrcExpect := rfl
@[simp] theorem setJob_txHdr (j : Job) (s : State) : (setJob j s).txHdr = s.txHdr := rfl
@[simp] theorem setJob_lenchk (j : Job) (s : State) : (setJob j s).lenchk = s.lenchk := rfl
@[simp] theorem setJob_dbufLen (j : Job) (s : State) : (setJob j s).dbufLen = s.dbufLen := rfl
@[simp] theorem setJob_mem (j : Job) (s : State) : (setJob j s).mem = s.mem := rfl
@[simp] theorem setJob_busy (j : Job) (s : State) : (setJob j s).busy = s.busy := rfl
@[simp] theorem setJob_done (j : Job) (s : State) : (setJob j s).done = s.done := rfl
@[simp] theorem setJob_err (j : Job) (s : State) : (setJob j s).err = s.err := rfl
@[simp] theorem setJob_rxValid (j : Job) (s : State) : (setJob j s).rxValid = s.rxValid := rfl
@[simp] theorem setJob_cmdErr (j : Job) (s : State) : (setJob j s).cmdErr = s.cmdErr := rfl
@[simp] theorem setJob_errPhase (j : Job) (s : State) : (setJob j s).errPhase = s.errPhase := rfl
@[simp] theorem setJob_errCnt (j : Job) (s : State) : (setJob j s).errCnt = s.errCnt := rfl
@[simp] theorem setJob_result (j : Job) (s : State) : (setJob j s).result = s.result := rfl
@[simp] theorem setJob_txCk (j : Job) (s : State) : (setJob j s).txCk = s.txCk := rfl
@[simp] theorem setJob_phase (j : Job) (s : State) : (setJob j s).phase = s.phase := rfl
@[simp] theorem setJob_idx (j : Job) (s : State) : (setJob j s).idx = s.idx := rfl
@[simp] theorem setJob_elapsed (j : Job) (s : State) : (setJob j s).elapsed = s.elapsed := rfl
@[simp] theorem setJob_op (j : Job) (s : State) : (setJob j s).op = s.op := rfl
@[simp] theorem setJob_wire (j : Job) (s : State) : (setJob j s).wire = s.wire := rfl
@[simp] theorem setJob_echoStg (j : Job) (s : State) : (setJob j s).echoStg = s.echoStg := rfl
@[simp] theorem setJob_rxStg (j : Job) (s : State) : (setJob j s).rxStg = s.rxStg := rfl
@[simp] theorem setJob_rxModeL (j : Job) (s : State) : (setJob j s).rxModeL = s.rxModeL := rfl
@[simp] theorem setJob_rxExpL (j : Job) (s : State) : (setJob j s).rxExpL = s.rxExpL := rfl
@[simp] theorem setJob_rxFifo (j : Job) (s : State) : (setJob j s).rxFifo = s.rxFifo := rfl
@[simp] theorem setJob_txLine (j : Job) (s : State) : (setJob j s).txLine = s.txLine := rfl
@[simp] theorem setJob_driver (j : Job) (s : State) : (setJob j s).driver = { s.driver with exch := .none, job := j } := rfl
@[simp] theorem setJob_rdata (j : Job) (s : State) : (setJob j s).rdata = s.rdata := rfl
@[simp] theorem setJob_agenda (j : Job) (s : State) : (setJob j s).agenda = s.agenda := rfl
@[simp] theorem setJob_params (j : Job) (s : State) : (setJob j s).params = s.params := rfl

/-! #### `finishCall`: R137, R141, R143, R144 -/

@[simp] theorem finishCall_ctrl (r : CallResult) (s : State) : (finishCall r s).ctrl = s.ctrl := rfl
@[simp] theorem finishCall_ownAddr (r : CallResult) (s : State) : (finishCall r s).ownAddr = s.ownAddr := rfl
@[simp] theorem finishCall_timeoutMs (r : CallResult) (s : State) : (finishCall r s).timeoutMs = s.timeoutMs := rfl
@[simp] theorem finishCall_rxSrcExpect (r : CallResult) (s : State) : (finishCall r s).rxSrcExpect = s.rxSrcExpect := rfl
@[simp] theorem finishCall_txHdr (r : CallResult) (s : State) : (finishCall r s).txHdr = s.txHdr := rfl
@[simp] theorem finishCall_lenchk (r : CallResult) (s : State) : (finishCall r s).lenchk = s.lenchk := rfl
@[simp] theorem finishCall_dbufLen (r : CallResult) (s : State) : (finishCall r s).dbufLen = s.dbufLen := rfl
@[simp] theorem finishCall_mem (r : CallResult) (s : State) : (finishCall r s).mem = s.mem := rfl
@[simp] theorem finishCall_busy (r : CallResult) (s : State) : (finishCall r s).busy = s.busy := rfl
@[simp] theorem finishCall_done (r : CallResult) (s : State) : (finishCall r s).done = s.done := rfl
@[simp] theorem finishCall_err (r : CallResult) (s : State) : (finishCall r s).err = s.err := rfl
@[simp] theorem finishCall_rxValid (r : CallResult) (s : State) : (finishCall r s).rxValid = s.rxValid := rfl
@[simp] theorem finishCall_cmdErr (r : CallResult) (s : State) : (finishCall r s).cmdErr = s.cmdErr := rfl
@[simp] theorem finishCall_errPhase (r : CallResult) (s : State) : (finishCall r s).errPhase = s.errPhase := rfl
@[simp] theorem finishCall_errCnt (r : CallResult) (s : State) : (finishCall r s).errCnt = s.errCnt := rfl
@[simp] theorem finishCall_result (r : CallResult) (s : State) : (finishCall r s).result = s.result := rfl
@[simp] theorem finishCall_txCk (r : CallResult) (s : State) : (finishCall r s).txCk = s.txCk := rfl
@[simp] theorem finishCall_phase (r : CallResult) (s : State) : (finishCall r s).phase = s.phase := rfl
@[simp] theorem finishCall_idx (r : CallResult) (s : State) : (finishCall r s).idx = s.idx := rfl
@[simp] theorem finishCall_elapsed (r : CallResult) (s : State) : (finishCall r s).elapsed = s.elapsed := rfl
@[simp] theorem finishCall_op (r : CallResult) (s : State) : (finishCall r s).op = s.op := rfl
@[simp] theorem finishCall_wire (r : CallResult) (s : State) : (finishCall r s).wire = s.wire := rfl
@[simp] theorem finishCall_echoStg (r : CallResult) (s : State) : (finishCall r s).echoStg = s.echoStg := rfl
@[simp] theorem finishCall_rxStg (r : CallResult) (s : State) : (finishCall r s).rxStg = s.rxStg := rfl
@[simp] theorem finishCall_rxModeL (r : CallResult) (s : State) : (finishCall r s).rxModeL = s.rxModeL := rfl
@[simp] theorem finishCall_rxExpL (r : CallResult) (s : State) : (finishCall r s).rxExpL = s.rxExpL := rfl
@[simp] theorem finishCall_rxFifo (r : CallResult) (s : State) : (finishCall r s).rxFifo = s.rxFifo := rfl
@[simp] theorem finishCall_txLine (r : CallResult) (s : State) : (finishCall r s).txLine = s.txLine := rfl
@[simp] theorem finishCall_driver (r : CallResult) (s : State) : (finishCall r s).driver = { s.driver with exch := .none, job := .idle, result := some r } := rfl
@[simp] theorem finishCall_rdata (r : CallResult) (s : State) : (finishCall r s).rdata = s.rdata := rfl
@[simp] theorem finishCall_agenda (r : CallResult) (s : State) : (finishCall r s).agenda = s.agenda := rfl
@[simp] theorem finishCall_params (r : CallResult) (s : State) : (finishCall r s).params = s.params := rfl

/-! #### `resetEvent`: R180 -/

@[simp] theorem resetEvent_ctrl (s : State) : (resetEvent s).ctrl = State.reset.ctrl := rfl
@[simp] theorem resetEvent_ownAddr (s : State) : (resetEvent s).ownAddr = State.reset.ownAddr := rfl
@[simp] theorem resetEvent_timeoutMs (s : State) : (resetEvent s).timeoutMs = State.reset.timeoutMs := rfl
@[simp] theorem resetEvent_rxSrcExpect (s : State) : (resetEvent s).rxSrcExpect = State.reset.rxSrcExpect := rfl
@[simp] theorem resetEvent_txHdr (s : State) : (resetEvent s).txHdr = State.reset.txHdr := rfl
@[simp] theorem resetEvent_lenchk (s : State) : (resetEvent s).lenchk = State.reset.lenchk := rfl
@[simp] theorem resetEvent_dbufLen (s : State) : (resetEvent s).dbufLen = State.reset.dbufLen := rfl
@[simp] theorem resetEvent_mem (s : State) : (resetEvent s).mem = State.reset.mem := rfl
@[simp] theorem resetEvent_busy (s : State) : (resetEvent s).busy = State.reset.busy := rfl
@[simp] theorem resetEvent_done (s : State) : (resetEvent s).done = State.reset.done := rfl
@[simp] theorem resetEvent_err (s : State) : (resetEvent s).err = State.reset.err := rfl
@[simp] theorem resetEvent_rxValid (s : State) : (resetEvent s).rxValid = State.reset.rxValid := rfl
@[simp] theorem resetEvent_cmdErr (s : State) : (resetEvent s).cmdErr = State.reset.cmdErr := rfl
@[simp] theorem resetEvent_errPhase (s : State) : (resetEvent s).errPhase = State.reset.errPhase := rfl
@[simp] theorem resetEvent_errCnt (s : State) : (resetEvent s).errCnt = State.reset.errCnt := rfl
@[simp] theorem resetEvent_result (s : State) : (resetEvent s).result = State.reset.result := rfl
@[simp] theorem resetEvent_txCk (s : State) : (resetEvent s).txCk = State.reset.txCk := rfl
@[simp] theorem resetEvent_phase (s : State) : (resetEvent s).phase = State.reset.phase := rfl
@[simp] theorem resetEvent_idx (s : State) : (resetEvent s).idx = State.reset.idx := rfl
@[simp] theorem resetEvent_elapsed (s : State) : (resetEvent s).elapsed = State.reset.elapsed := rfl
@[simp] theorem resetEvent_op (s : State) : (resetEvent s).op = State.reset.op := rfl
@[simp] theorem resetEvent_wire (s : State) : (resetEvent s).wire = State.reset.wire := rfl
@[simp] theorem resetEvent_echoStg (s : State) : (resetEvent s).echoStg = State.reset.echoStg := rfl
@[simp] theorem resetEvent_rxStg (s : State) : (resetEvent s).rxStg = State.reset.rxStg := rfl
@[simp] theorem resetEvent_rxModeL (s : State) : (resetEvent s).rxModeL = State.reset.rxModeL := rfl
@[simp] theorem resetEvent_rxExpL (s : State) : (resetEvent s).rxExpL = State.reset.rxExpL := rfl
@[simp] theorem resetEvent_rxFifo (s : State) : (resetEvent s).rxFifo = s.rxFifo := rfl
@[simp] theorem resetEvent_txLine (s : State) : (resetEvent s).txLine = s.txLine := rfl
@[simp] theorem resetEvent_driver (s : State) : (resetEvent s).driver = State.reset.driver := rfl
@[simp] theorem resetEvent_rdata (s : State) : (resetEvent s).rdata = s.rdata := rfl
@[simp] theorem resetEvent_agenda (s : State) : (resetEvent s).agenda = s.agenda := rfl
@[simp] theorem resetEvent_params (s : State) : (resetEvent s).params = s.params := rfl

end Sys2Proof.Machine
end

