-- ==== Sys2Proof/Laws/Memory.lean ====
section
/-!
SUPPORT. The laws of the buffers' memory: read after write, and that every memory operation keeps the canonical form.
-/

namespace Sys2Proof.Machine

/-- An unlisted key reads 0. -/
@[simp] theorem Memory.read_nil (a : Nat) : Memory.read [] a = 0#8 := rfl

/-- A key below every listed key reads 0. -/
theorem Memory.read_below : ∀ (m : Memory) (lo a : Nat), Memory.wfFrom lo m = true → a < lo → Memory.read m a = 0#8
  | [], _, _, _, _ => rfl
  | (k, v) :: m, lo, a, h, ha => by
    simp only [Memory.wfFrom, Bool.and_eq_true, decide_eq_true_eq] at h
    have hne : a ≠ k := by omega
    simp only [Memory.read, hne, if_false]
    exact Memory.read_below m (k + 1) a h.2 (by omega)

/-- The canonical form from a bound holds from every lower bound. -/
theorem Memory.wfFrom_mono (m : Memory) (lo lo' : Nat) (h : Memory.wfFrom lo m = true) (hl : lo' ≤ lo) : Memory.wfFrom lo' m = true := by
  cases m with
  | nil => rfl
  | cons c m =>
    obtain ⟨k, v⟩ := c
    simp only [Memory.wfFrom, Bool.and_eq_true, decide_eq_true_eq] at h ⊢
    exact ⟨⟨by omega, h.1.2⟩, h.2⟩

/-- A write keeps the canonical form from any bound not above the key. -/
theorem Memory.write_wfFrom : ∀ (m : Memory) (lo a : Nat) (b : Byte),
    Memory.wfFrom lo m = true → lo ≤ a → Memory.wfFrom lo (Memory.write m a b) = true
  | [], lo, a, b, _, ha => by
    unfold Memory.write
    split
    · rfl
    · simp_all [Memory.wfFrom]
  | (k, v) :: m, lo, a, b, h, ha => by
    have h' := h
    simp only [Memory.wfFrom, Bool.and_eq_true, decide_eq_true_eq] at h'
    unfold Memory.write
    split
    · split
      · exact h
      · simp_all [Memory.wfFrom]
    · split
      · split
        · exact Memory.wfFrom_mono m (k + 1) lo h'.2 (by omega)
        · simp_all [Memory.wfFrom]
      · simp only [Memory.wfFrom, Bool.and_eq_true, decide_eq_true_eq]
        exact ⟨h'.1, Memory.write_wfFrom m (k + 1) a b h'.2 (by omega)⟩

/-- A write keeps the canonical form. -/
theorem Memory.write_wf (m : Memory) (a : Nat) (b : Byte) (h : m.wf = true) : (m.write a b).wf = true :=
  Memory.write_wfFrom m 0 a b h (Nat.zero_le a)

/-- Reading the key just written gives the byte written. -/
theorem Memory.read_write_same_from : ∀ (m : Memory) (lo a : Nat) (b : Byte),
    Memory.wfFrom lo m = true → Memory.read (Memory.write m a b) a = b
  | [], _, a, b, _ => by
    unfold Memory.write
    split <;> simp_all [Memory.read]
  | (k, v) :: m, lo, a, b, h => by
    simp only [Memory.wfFrom, Bool.and_eq_true, decide_eq_true_eq] at h
    unfold Memory.write
    split
    · split
      · next hlt hb =>
        have hne : a ≠ k := by omega
        simp only [Memory.read, hne, if_false, hb]
        exact Memory.read_below m (k + 1) a h.2 (by omega)
      · simp [Memory.read]
    · split
      · next hk =>
        split
        · next hb =>
          rw [hb]
          exact Memory.read_below m (k + 1) a h.2 (by omega)
        · simp [Memory.read]
      · next hne =>
        simp only [Memory.read, hne, if_false]
        exact Memory.read_write_same_from m (k + 1) a b h.2

/-- Reading the key just written gives the byte written, in a canonical memory. -/
theorem Memory.read_write_same (m : Memory) (a : Nat) (b : Byte) (h : m.wf = true) : (m.write a b).read a = b :=
  Memory.read_write_same_from m 0 a b h

/-- A write leaves every other key alone. -/
theorem Memory.read_write_other : ∀ (m : Memory) (a x : Nat) (b : Byte), x ≠ a → Memory.read (Memory.write m a b) x = Memory.read m x
  | [], a, x, b, hx => by
    unfold Memory.write
    split <;> simp [Memory.read, hx]
  | (k, v) :: m, a, x, b, hx => by
    unfold Memory.write
    split
    · split
      · rfl
      · simp [Memory.read, hx]
    · split
      · next hk =>
        have hxk : x ≠ k := by omega
        split <;> simp [Memory.read, hx, hxk]
      · simp only [Memory.read]
        split
        · rfl
        · exact Memory.read_write_other m a x b hx

/-- Storing elements keeps the canonical form. -/
theorem Memory.writeElems_wf : ∀ (bs : List Byte) (m : Memory) (a : Nat), m.wf = true → (m.writeElems a bs).wf = true
  | [], _, _, h => h
  | b :: bs, m, a, h => Memory.writeElems_wf bs (m.write a b) (a + 4) (Memory.write_wf m a b h)

/-- Storing elements leaves alone every key that is none of theirs. -/
theorem Memory.read_writeElems_other : ∀ (bs : List Byte) (m : Memory) (a x : Nat),
    (∀ i, i < bs.length → x ≠ a + 4 * i) → (m.writeElems a bs).read x = m.read x
  | [], _, _, _, _ => rfl
  | b :: bs, m, a, x, h => by
    have h0 : x ≠ a := by simpa using h 0 (by simp)
    rw [Memory.writeElems, Memory.read_writeElems_other bs (m.write a b) (a + 4) x, Memory.read_write_other m a x b h0]
    intro i hi
    have := h (i + 1) (by simpa using hi)
    omega

/-- Element `i` reads the byte stored there. -/
theorem Memory.read_writeElems_at : ∀ (bs : List Byte) (m : Memory) (a i : Nat) (h : i < bs.length), m.wf = true →
    (m.writeElems a bs).read (a + 4 * i) = bs[i]
  | b :: bs, m, a, 0, _, hw => by
    simp only [Nat.mul_zero, Nat.add_zero, List.getElem_cons_zero, Memory.writeElems]
    rw [Memory.read_writeElems_other bs (m.write a b) (a + 4) a (fun i _ => by omega), Memory.read_write_same m a b hw]
  | b :: bs, m, a, i + 1, h, hw => by
    have hi : i < bs.length := by simpa using h
    have he : a + 4 * (i + 1) = a + 4 + 4 * i := by omega
    simp only [List.getElem_cons_succ, Memory.writeElems]
    rw [he]
    exact Memory.read_writeElems_at bs (m.write a b) (a + 4) i hi (Memory.write_wf m a b hw)

/-- The keys of a memory after a write: the key written, or one listed before. -/
theorem Memory.mem_write : ∀ (m : Memory) (a : Nat) (b : Byte) (c : Host.Cell), c ∈ Memory.write m a b → c.1 = a ∨ c ∈ m
  | [], a, b, c, h => by
    unfold Memory.write at h
    split at h <;> simp_all
  | (k, v) :: m, a, b, c, h => by
    unfold Memory.write at h
    split at h
    · split at h <;> simp_all
      rcases h with h | h | h <;> simp_all
    · split at h
      · split at h
        · exact .inr (List.mem_cons_of_mem _ h)
        · rcases List.mem_cons.1 h with h | h
          · exact .inl (by simp [h])
          · exact .inr (List.mem_cons_of_mem _ h)
      · rcases List.mem_cons.1 h with h | h
        · exact .inr (by simp [h])
        · rcases Memory.mem_write m a b c h with h | h
          · exact .inl h
          · exact .inr (List.mem_cons_of_mem _ h)

/-- The reset memory is canonical. -/
theorem State.reset_mem_wf : State.reset.mem.wf = true := by decide

/-- How many elements are read. -/
@[simp] theorem Memory.length_readElems (m : Memory) (base n : Nat) : (m.readElems base n).length = n := by
  simp [Memory.readElems]

/-- SEND's payload has exactly TX_LEN bytes (R15: never a mismatched length). -/
@[simp] theorem State.length_txPayload (s : State) : s.txPayload.length = s.txHdr.len.toNat := by
  simp [State.txPayload]

end Sys2Proof.Machine
end

