-- ==== Sys2Proof/Laws/Ops.lean ====
section
/-!
SUPPORT. What each shared operation can do, said once.
-/

namespace Sys2Proof.Machine

/-- No phase has more than 260 bytes to move, except that a received length byte bounds its own phase by 255 (R27). -/
theorem State.toMoveIn_le (s : State) (p : Phase) : s.toMoveIn p ≤ 260 := by
  have h1 := s.txHdr.len.isLt
  have h2 := s.rxLen.isLt
  cases p <;> simp only [State.toMoveIn] <;> omega

/-- The three things opening a phase can do (R44, R45, R48). -/
theorem State.openPhase_cases (p : Phase) (next : State → State) (s : State) :
    ((s.beginPhase p).toMove = 0 ∧ s.openPhase p next = next (s.beginPhase p)) ∨
    ((s.beginPhase p).toMove ≠ 0 ∧ s.timeoutMs = 0#32 ∧ s.openPhase p next = (s.beginPhase p).complete p.timeoutErr p 0#9) ∨
    ((s.beginPhase p).toMove ≠ 0 ∧ s.timeoutMs ≠ 0#32 ∧ s.openPhase p next = s.beginPhase p) := by
  unfold State.openPhase
  by_cases h : (s.beginPhase p).toMove = 0
  · exact .inl ⟨h, by simp [h]⟩
  · by_cases ht : s.timeoutMs = 0#32
    · exact .inr (.inl ⟨h, ht, by simp [h, ht]⟩)
    · exact .inr (.inr ⟨h, ht, by simp [h, ht]⟩)

/-- A phase that always has something to move waits when TIMEOUT_MS is not 0. -/
theorem State.openPhase_wait (p : Phase) (next : State → State) (s : State)
    (h : (s.beginPhase p).toMove ≠ 0) (ht : s.timeoutMs ≠ 0#32) : s.openPhase p next = s.beginPhase p := by
  rcases State.openPhase_cases p next s with h' | h' | h'
  · exact absurd h'.1 h
  · exact absurd h'.2.1 ht
  · exact h'.2.2

/-- A phase that has something to move fails on entry when TIMEOUT_MS is 0. -/
theorem State.openPhase_zero_timeout (p : Phase) (next : State → State) (s : State)
    (h : (s.beginPhase p).toMove ≠ 0) (ht : s.timeoutMs = 0#32) :
    s.openPhase p next = (s.beginPhase p).complete p.timeoutErr p 0#9 := by
  rcases State.openPhase_cases p next s with h' | h' | h'
  · exact absurd h'.1 h
  · exact h'.2.2
  · exact absurd ht h'.2.1

/-- Admission while BUSY (R121 a). -/
theorem admitCommand_busy (o : Op) (run : State → State) (s : State) (h : s.busy = true) : admitCommand o run s = s.setCmdErr := by
  simp [admitCommand, h]

/-- Admission while idle (R120). -/
theorem admitCommand_idle (o : Op) (run : State → State) (s : State) (h : s.busy = false) : admitCommand o run s = run (s.accept o) := by
  simp [admitCommand, h]

/-- A locked register while BUSY (R54). -/
theorem Reg.write_locked (r : Reg) (v : Word) (s : State) (hl : r.locked = true) (hb : s.busy = true) : r.write v s = s.setCmdErr := by
  simp [Reg.write, hl, hb]

/-- Any register while idle (R42). -/
theorem Reg.write_idle (r : Reg) (v : Word) (s : State) (hb : s.busy = false) : r.write v s = r.store v s := by
  simp [Reg.write, hb]

/-- A register that is never locked (R20, R42). -/
theorem Reg.write_unlocked (r : Reg) (v : Word) (s : State) (hl : r.locked = false) : r.write v s = r.store v s := by
  simp [Reg.write, hl]

/-- TxAccept is not enabled (R44). -/
theorem txAccept_disabled (s : State) (h : s.txValid = false) : txAccept s = s := by
  simp [txAccept, h]

/-- TxAccept moves the offered byte (R44). -/
theorem txAccept_enabled (s : State) (h : s.txValid = true) : txAccept s = advance { s with txLine := s.txLine ++ [s.txData] } := by
  simp [txAccept, h]

/-- RxByte is not enabled (R45). -/
theorem rxByte_disabled (s : State) (h : s.rxReady = false) : rxByte s = s := by
  unfold rxByte
  split
  · rfl
  · simp [h]

/-- RxByte takes the oldest byte the transport holds (R45). -/
theorem rxByte_enabled (s : State) (b : Byte) (rest : List Byte) (hf : s.rxFifo = b :: rest) (h : s.rxReady = true) :
    rxByte s = advance ({ s with rxFifo := rest }.stage b) := by
  simp [rxByte, hf, h]

/-- Tick outside a phase (R7). -/
theorem tick_idle (s : State) (h : s.phase = .idle) : tick s = s := by
  simp [tick, h]

/-- What a tick can do in a phase (R44, R45): the window expires, or one more tick is counted. -/
theorem tick_cases (s : State) (h : s.phase ≠ .idle) :
    (s.elapsed + 1#32 = s.timeoutMs ∧ tick s = s.complete s.phase.timeoutErr s.phase s.idx) ∨
    (s.elapsed + 1#32 ≠ s.timeoutMs ∧ tick s = { s with elapsed := s.elapsed + 1#32 }) := by
  by_cases ht : s.elapsed + 1#32 = s.timeoutMs
  · exact .inl ⟨ht, by simp [tick, h, ht]; rfl⟩
  · exact .inr ⟨ht, by simp [tick, h, ht]⟩

/-- What the end of a frame can do (R100): three ways to complete. -/
theorem finishReceive_cases (s : State) :
    (frameOk s.rxModeL s.params.crcInit s.rxExpL s.rxStg = false ∧ finishReceive s = s.complete .integrity .idle 0#9) ∨
    (frameOk s.rxModeL s.params.crcInit s.rxExpL s.rxStg = true ∧ lenOk s.lenchk s.rxLen = false ∧
      finishReceive s = { s with rxValid := true }.complete .length .idle 0#9) ∨
    (frameOk s.rxModeL s.params.crcInit s.rxExpL s.rxStg = true ∧ lenOk s.lenchk s.rxLen = true ∧
      finishReceive s = (deliver { s with rxValid := true }).complete .none .idle 0#9) := by
  have hl : State.rxLen { s with rxValid := true } = s.rxLen := rfl
  unfold finishReceive
  cases hf : frameOk s.rxModeL s.params.crcInit s.rxExpL s.rxStg with
  | false => exact .inl ⟨rfl, by simp⟩
  | true =>
    cases hk : lenOk s.lenchk s.rxLen with
    | false => exact .inr (.inl ⟨rfl, rfl, by simp [hl, hk]⟩)
    | true => exact .inr (.inr ⟨rfl, rfl, by simp [hl, hk]⟩)

/-- What a turn of the agenda does. -/
theorem step_cons (s : State) (e : Event) (rest : List Event) (h : s.agenda = e :: rest) : step s = handle e { s with agenda := rest } := by
  simp [step, takeTurn, h]

/-- With no event to come nothing happens (R7). -/
theorem step_nil (s : State) (h : s.agenda = []) : step s = .next s := by
  simp [step, takeTurn, h]

/-- A defined access outside CMD writes its register (R42). -/
theorem hostAccess_write (off : Nat) (v : Word) (s : State) (ho : off < 0x1000) (ha : off % 4 = 0) (hc : Reg.ofOffset off ≠ .cmd) :
    hostAccess (.write .word off v) s = .next ((Reg.ofOffset off).write v s) := by
  have h1 : ¬(0x1000 ≤ off) := by omega
  simp only [hostAccess, accessDefined, ha, h1, if_false]
  unfold hostWrite
  cases h : Reg.ofOffset off <;> simp_all

/-- A defined write to CMD is a command (R120). -/
theorem hostAccess_command (v : Word) (s : State) : hostAccess (.write .word 0x01C v) s = hostCommand v s := rfl

/-- A defined read returns the register's value (R42). -/
theorem hostAccess_read (off : Nat) (s : State) (ho : off < 0x1000) (ha : off % 4 = 0) :
    hostAccess (.read .word off) s = .next { s with rdata := (Reg.ofOffset off).read s } := by
  have h1 : ¬(0x1000 ≤ off) := by omega
  simp only [hostAccess, accessDefined, ha, h1, if_false]
  rfl

/-- What noting an exchange does: nothing where the one there has an owner, else the new one takes its place (R146). -/
theorem noteSending_eq (recvOp : Option Op) (s : State) : noteSending recvOp s = { s with driver := s.driver.afterRequest recvOp } := by
  rcases hd : s.driver with ⟨x, j, cs, ds, r⟩
  cases x <;> cases j <;> simp [noteSending, Driver.freeForExchange, Driver.afterRequest, Driver.exchangeOwned, Exchange.inProgress, hd] <;>
    first | rfl | (rw [← hd])

end Sys2Proof.Machine
end

