-- ==== Sys2Proof/Laws/PerInstr.lean ====
section
/-!
SUPPORT. For every instruction: the bits its opcode-table row fixes are so in the word the encoder writes.
-/

namespace Sys2Proof.Laws

namespace EncodingMatchesRow

/-- The encoded word has the bits of its row. -/
def Statement (i : Instr) : Prop := encode i &&& i.row.mask = i.row.pattern

/-- Which byte of a request word holds bit `k` (R67). -/
theorem requestWord_bit (dest len src method : Byte) (k : Nat) :
    (requestWord dest len src method).getLsbD k =
      if k < 8 then dest.getLsbD k else if k < 16 then len.getLsbD (k - 8) else if k < 24 then src.getLsbD (k - 16) else method.getLsbD (k - 24) := by
  simp only [requestWord, BitVec.getLsbD_append]
  by_cases h1 : k < 8
  · simp [h1]
  · by_cases h2 : k < 16
    · have h2' : k - 8 < 8 := by omega
      simp [h1, h2, h2']
    · by_cases h3 : k < 24
      · have h2' : ¬(k - 8 < 8) := by omega
        have he : k - 8 - 8 = k - 16 := by omega
        have h3' : k - 16 < 8 := by omega
        simp only [h1, h2, h2', h3, h3', if_false, if_true, he]
      · have h2' : ¬(k - 8 < 8) := by omega
        have h3' : ¬(k - 8 - 8 < 8) := by omega
        have he : k - 8 - 8 - 8 = k - 24 := by omega
        simp only [h1, h2, h2', h3, h3', if_false, he]

/-- The top byte of a request word is its method code (R67). -/
theorem method_of_requestWord (dest len src method : Byte) :
    requestWord dest len src method &&& 0xFF00_0000#32 = requestWord 0#8 0#8 0#8 method := by
  apply BitVec.eq_of_getLsbD_eq
  intro k hk
  have hm : (0xFF00_0000#32).getLsbD k = decide (24 ≤ k) := by
    revert k
    decide
  rw [BitVec.getLsbD_and, requestWord_bit, requestWord_bit, hm]
  by_cases h : 24 ≤ k
  · have h1 : ¬(k < 8) := by omega
    have h2 : ¬(k < 16) := by omega
    have h3 : ¬(k < 24) := by omega
    simp [h, h1, h2, h3]
  · have h3 : k < 24 := by omega
    simp [h, h3]

theorem nop : Statement .nop := by simp [Statement, encode, Instr.row, cmdRow]
theorem send : Statement .send := by simp [Statement, encode, Instr.row, cmdRow]
theorem recv : Statement .recv := by simp [Statement, encode, Instr.row, cmdRow]
theorem recvStatus : Statement .recvStatus := by simp [Statement, encode, Instr.row, cmdRow]
theorem recvData : Statement .recvData := by simp [Statement, encode, Instr.row, cmdRow]
theorem mCommsRev (dest len src : Byte) : Statement (.mCommsRev dest len src) := method_of_requestWord dest len src _
theorem mReset (dest len src : Byte) : Statement (.mReset dest len src) := method_of_requestWord dest len src _
theorem mRdMinh (dest len src : Byte) : Statement (.mRdMinh dest len src) := method_of_requestWord dest len src _
theorem mModMinh (dest len src : Byte) : Statement (.mModMinh dest len src) := method_of_requestWord dest len src _
theorem mRdCredit (dest len src : Byte) : Statement (.mRdCredit dest len src) := method_of_requestWord dest len src _
theorem mRdInh (dest len src : Byte) : Statement (.mRdInh dest len src) := method_of_requestWord dest len src _
theorem mModInh (dest len src : Byte) : Statement (.mModInh dest len src) := method_of_requestWord dest len src _

end EncodingMatchesRow

end Sys2Proof.Laws
end

