-- ==== Sys2Proof/Tests/Slice0.lean ====
section
/-!
SUPPORT. The model's own tests. Expected values are the spec's: V<n> is a vector of 95_test_vectors.md, R<n> a rule.
First the decoder, the well-formedness smoke test and single steps; then the witnesses: for each statement a state and operands that meet its hypotheses,
each clause at a boundary of its range.
-/

-- One thread for the tests: each `decide` would otherwise be checked on a thread of its own, whose memory the check's limit counts.
set_option Elab.async false

namespace Sys2Proof.Tests

open Sys2Proof Sys2Proof.Machine

/-- The next state of an outcome, if it is one. -/
def next? : Host.Outcome State Fault Refusal → Option State
  | .next s => some s
  | .fault _ => none
  | .refused _ => none

/-- STATUS of an outcome's next state. -/
def statusOf (o : Host.Outcome State Fault Refusal) : Option Word := (next? o).map State.statusWord

/-- The reset state with TIMEOUT_MS = 2 and echo verification off. -/
def ready : State := { State.reset with timeoutMs := 2#32, ctrl := ⟨.simple, false, false⟩ }

/-- `ready` with TX_HDR for the version query to address 3 (V43). -/
def readyQuery : State := { ready with txHdr := ⟨3#8, 0#8, 4#8⟩ }

/-- `ready` in Ccitt mode with echo verification on (V45). -/
def readyCcitt : State := { readyQuery with ctrl := ⟨.ccitt, true, false⟩ }

/-- One step on a state whose next turn is `e`. -/
def on (s : State) (e : Event) : Host.Outcome State Fault Refusal := step { s with agenda := [e] }

/-- A state in the middle of a receive: these bytes are staged, `idx` of the phase's own. -/
def inReceive (s : State) (o : Op) (ph : Phase) (idx : BitVec 9) (stg fifo : List Byte) : State :=
  { s.receiving o with phase := ph, idx := idx, rxStg := stg, rxFifo := fifo }

/-- A state in the middle of a SEND of the version query. -/
def inSend (s : State) (ph : Phase) (idx : BitVec 9) : State :=
  { s.sending ⟨3#8, 1#8, 4#8, []⟩ with phase := ph, idx := idx }

/-! ### Decoding: words written out from R66 and R67 -/

-- R66: bits 7:0 are OP.
theorem test_decode_nop : decodeTableWord 32 0b00000000_00000000_00000000_00000000 = some .nop := by decide
theorem test_decode_send : decodeTableWord 32 0b00000000_00000000_00000000_00000001 = some .send := by decide
theorem test_decode_recv : decodeTableWord 32 0b00000000_00000000_00000000_00000010 = some .recv := by decide
theorem test_decode_recvStatus : decodeTableWord 32 0b00000000_00000000_00000000_00000011 = some .recvStatus := by decide
theorem test_decode_recvData : decodeTableWord 32 0b00000000_00000000_00000000_00000100 = some .recvData := by decide
theorem test_decode_recvData_one_byte : decodeTableWord 8 0b00000100 = some .recvData := by decide
-- R68: 0x05 to 0xFF are reserved.
theorem test_decode_reserved_lowest : decodeTableWord 32 0x05 = none := by decide
theorem test_decode_reserved_highest : decodeTableWord 32 0xFF = none := by decide
-- V78: only bits 7:0 count.
theorem test_decode_cmd_ignores_high_bits : decodeCmd 0x0000_0100#32 = .ok .nop := by decide
-- R67: method in bits 31:24, then source, length, destination; wire bytes of V24, V38, V30, V32, V40, V27.
theorem test_decode_mCommsRev : decodeTableWord 32 0b00000100_00000001_00000000_00000011 = some (.mCommsRev 3#8 0#8 1#8) := by decide
theorem test_decode_mReset : decodeTableWord 32 0b00000001_00000001_00000000_00000011 = some (.mReset 3#8 0#8 1#8) := by decide
theorem test_decode_mRdMinh : decodeTableWord 32 0b11100011_00000001_00000000_00000011 = some (.mRdMinh 3#8 0#8 1#8) := by decide
theorem test_decode_mModMinh : decodeTableWord 32 0b11100100_00000001_00000001_00000010 = some (.mModMinh 2#8 1#8 1#8) := by decide
theorem test_decode_mRdCredit : decodeTableWord 32 0b11100101_00000001_00000000_00000010 = some (.mRdCredit 2#8 0#8 1#8) := by decide
theorem test_decode_mRdInh : decodeTableWord 32 0b11100110_00000001_00000000_00000011 = some (.mRdInh 3#8 0#8 1#8) := by decide
theorem test_decode_mModInh : decodeTableWord 32 0b11100111_00000001_00000010_00000010 = some (.mModInh 2#8 2#8 1#8) := by decide

/-! ### Well-formedness: one ill-formed term for each check (R67) -/

theorem test_wf_refuses_mCommsRev_payload : (Instr.mCommsRev 3#8 1#8 1#8).wellFormed = false := by decide
theorem test_wf_refuses_mRdMinh_payload : (Instr.mRdMinh 3#8 1#8 1#8).wellFormed = false := by decide
theorem test_wf_refuses_mModMinh_two_bytes : (Instr.mModMinh 3#8 2#8 1#8).wellFormed = false := by decide
theorem test_wf_refuses_mRdCredit_payload : (Instr.mRdCredit 3#8 255#8 1#8).wellFormed = false := by decide
theorem test_wf_refuses_mRdInh_payload : (Instr.mRdInh 3#8 1#8 1#8).wellFormed = false := by decide
theorem test_wf_refuses_mModInh_one_byte : (Instr.mModInh 3#8 1#8 1#8).wellFormed = false := by decide
theorem test_wf_accepts_mModInh_mask : (Instr.mModInh 3#8 2#8 1#8).wellFormed = true := by decide

/-! ### Checksums -/

-- V2, V4.
theorem test_ckSimple : ckSimple [0x03#8, 0x00#8, 0x01#8, 0x04#8] = 0xF8#8 := by decide
theorem test_ckSimple_wraps : ckSimple [0x80#8, 0x80#8] = 0x00#8 := by decide
-- V8, V9.
theorem test_okSimple_corrupted : okSimple [0x03#8, 0x00#8, 0x01#8, 0x04#8, 0xF9#8] = false := by decide
theorem test_okSimple_compensated : okSimple [0x03#8, 0x00#8, 0x02#8, 0x04#8, 0xF7#8] = true := by decide
-- V13, V17.
theorem test_crc16_one_byte : crc16 0#16 [0x80#8] = 0x9188#16 := by decide
theorem test_crc16_frame : crc16 0#16 [0x01#8, 0x03#8, 0x03#8, 0x00#8, 0x00#8, 0x01#8, 0x02#8] = 0x8B20#16 := by decide +kernel
-- V21: wire byte 2 corrupted, the high byte alone would still match.
theorem test_okCcitt_byte2 : okCcitt 0#16 [0x01#8, 0x03#8, 0x21#8, 0x00#8, 0x00#8, 0x01#8, 0x02#8, 0x8B#8] 0x03#8 = false := by decide +kernel
-- V27, V29.
theorem test_image_ccitt : Frame.image .ccitt 0#16 ⟨2#8, 1#8, 231#8, [0xFF#8, 0xFF#8]⟩ =
    [0x02#8, 0x02#8, 0xD9#8, 0xE7#8, 0xFF#8, 0xFF#8, 0x81#8] := by decide +kernel
theorem test_image_simple : Frame.image .simple 0#16 ⟨2#8, 1#8, 231#8, [0x34#8, 0x12#8]⟩ =
    [0x02#8, 0x02#8, 0x01#8, 0xE7#8, 0x34#8, 0x12#8, 0xCE#8] := by decide +kernel

/-! ### The commands -/

-- V78, V79: NOP, idle and busy.
theorem test_nop_idle : statusOf (on State.reset (.host (.write .word 0x01C 0x100#32))) = some 0#32 := by decide +kernel
theorem test_nop_busy : statusOf (on (inSend readyQuery .txHdr 0#9) (.host (.write .word 0x01C 0#32))) = some 0x0000_0101#32 := by decide +kernel
-- V43, V45, V47: SEND.
theorem test_send_accepted : (next? (exec .send readyQuery)).map (fun t => (t.statusWord, t.txCk.toWord, t.txData)) =
    some (0x0000_0101#32, 0x0000_01F8#32, 0x03#8) := by decide +kernel
theorem test_send_zero_timeout : (next? (exec .send { readyQuery with timeoutMs := 0#32 })).map (fun t => (t.statusWord, t.txCk.toWord)) =
    some (0x0000_1006#32, 0x0000_01F8#32) := by decide +kernel
-- V53, V69: RECV accepted; with TIMEOUT_MS = 0.
theorem test_recv_accepted : statusOf (exec .recv ready) = some 0x0000_0501#32 := by decide +kernel
theorem test_recv_zero_timeout : statusOf (exec .recv State.reset) = some 0x0000_500A#32 := by decide +kernel
-- V59 for RECV_STATUS and RECV_DATA: LEN_MODE = 3.
theorem test_recvStatus_reserved_mode : statusOf (exec .recvStatus { ready with lenchk := ⟨0#8, .reserved⟩ }) = some 0x0000_001A#32 := by decide +kernel
theorem test_recvData_reserved_mode : statusOf (exec .recvData { ready with lenchk := ⟨0#8, .reserved⟩ }) = some 0x0000_001A#32 := by decide +kernel
-- V74: a command while BUSY. V77: a reserved opcode.
theorem test_command_while_busy : statusOf (on (inSend readyQuery .txHdr 0#9) (.host (.write .word 0x01C 2#32))) = some 0x0000_0181#32 := by decide +kernel
theorem test_reserved_opcode : statusOf (on State.reset (.host (.write .word 0x01C 5#32))) = some 0x0000_0080#32 := by decide +kernel

/-! ### The engine -/

-- V43: the fifth byte out completes.
theorem test_txAccept_last : (next? (on (inSend readyQuery .txCk 0#9) .txAccept)).map (fun t => (t.statusWord, t.txLine)) =
    some (0x0000_0002#32, [0xF8#8]) := by decide +kernel
-- V45: the echo differs in its last byte.
theorem test_echo_mismatch :
    statusOf (on { inSend readyCcitt .echo 4#9 with
      wire := [0x03#8, 0x00#8, 0x69#8, 0x04#8, 0xE8#8], echoStg := [0x03#8, 0x00#8, 0x69#8, 0x04#8], rxFifo := [0xE9#8] } .rxByte) =
    some 0x0005_400E#32 := by decide +kernel
-- V48: the second tick of a window of two.
theorem test_tick_expires : statusOf (on { inSend readyQuery .txHdr 2#9 with elapsed := 1#32 } .tick) = some 0x0002_1006#32 := by decide +kernel
-- V70: timeout in the payload window, one byte in.
theorem test_tick_payload_window :
    statusOf (on { inReceive ready .recvData .rxPayload 1#9 [1#8, 2#8, 3#8, 0#8, 9#8] [] with elapsed := 1#32 } .tick) = some 0x0001_600A#32 := by decide +kernel
-- V53, V42, V54: the last byte of a five-byte frame.
theorem test_recv_last_byte :
    (next? (on (inReceive ready .recv .rxCk 0#9 [1#8, 0#8, 2#8, 0#8] [0xFD#8]) .rxByte)).map (fun t => (t.statusWord, t.rxHdrWord, t.rxCkWord, t.result.toWord)) =
    some (0x0000_0042#32, 0x0002_0001#32, 0x0000_02FD#32, 0#32) := by decide +kernel
theorem test_recvStatus_corrupted :
    (next? (on (inReceive ready .recvStatus .rxCk 0#9 [1#8, 0#8, 2#8, 0#8] [0xFC#8]) .rxByte)).map (fun t => (t.statusWord, t.rxHdrWord, t.result.toWord)) =
    some (0x0000_0012#32, 0#32, 0#32) := by decide +kernel
theorem test_recvStatus_device_error :
    (next? (on (inReceive ready .recvStatus .rxCk 0#9 [1#8, 0#8, 2#8, 5#8] [0xF8#8]) .rxByte)).map (fun t => (t.statusWord, t.rxHdrWord, t.result.toWord)) =
    some (0x0000_0042#32, 0x0502_0001#32, 0x0000_0305#32) := by decide +kernel
-- V58: a wrong length keeps the frame visible.
theorem test_recvStatus_wrong_length :
    (next? (on (inReceive { ready with lenchk := ⟨3#8, .exact⟩ } .recvStatus .rxCk 0#9 [1#8, 2#8, 3#8, 0#8, 9#8, 9#8] [0xE8#8]) .rxByte)).map
      (fun t => (t.statusWord, t.rxHdrWord, t.result.toWord)) =
    some (0x0000_0056#32, 0x0003_0201#32, 0#32) := by decide +kernel
-- V60: the copy, zero-filled.
theorem test_recvData_copy :
    (next? (on (inReceive { ready with dbufLen := 4#8 } .recvData .rxCk 0#9 [1#8, 2#8, 3#8, 0#8, 9#8, 9#8] [0xE8#8]) .rxByte)).map
      (fun t => (t.statusWord, t.result.toWord, t.mem.readElems 0xC00 4)) =
    some (0x0000_0042#32, 0x0002_0100#32, [9#8, 9#8, 0#8, 0#8]) := by decide +kernel
-- V61: truncation, elements at and above DBUF_LEN keep their value.
theorem test_recvData_truncates :
    (next? (on (inReceive { ready with dbufLen := 2#8, mem := [(0xC00, 0xAA#8), (0xC04, 0xAA#8), (0xC08, 0xAA#8), (0xC0C, 0xAA#8)] }
      .recvData .rxCk 0#9 [1#8, 3#8, 3#8, 7#8, 1#8, 2#8, 3#8] [0xEC#8]) .rxByte)).map (fun t => (t.result.toWord, t.mem.readElems 0xC00 4)) =
    some (0x0002_0307#32, [1#8, 2#8, 0xAA#8, 0xAA#8]) := by decide +kernel
-- V56: Ccitt mode reports RX_SRC_EXPECT as the source and the wire byte in RX_CK.
theorem test_recv_ccitt :
    (next? (on (inReceive { ready with ctrl := ⟨.ccitt, false, false⟩, rxSrcExpect := 3#8, lenchk := ⟨3#8, .exact⟩ }
      .recv .rxCk 0#9 [1#8, 3#8, 0x20#8, 0#8, 0#8, 1#8, 2#8] [0x8B#8]) .rxByte)).map (fun t => (t.statusWord, t.rxHdrWord, t.rxCkWord)) =
    some (0x0000_0042#32, 0x0003_0301#32, 0x0000_208B#32) := by decide +kernel
-- V81: Reset in the middle of a SEND.
theorem test_reset_mid_send :
    (next? (on { inSend readyQuery .txHdr 2#9 with txLine := [3#8, 0#8] } .reset)).map (fun t => (t.statusWord, t.ctrl.toWord, t.timeoutMs, t.txHdr.toWord, t.txLine)) =
    some (0#32, 2#32, 0#32, 0#32, [3#8, 0#8]) := by decide +kernel

/-! ### The register space -/

-- V83, V86, V87.
theorem test_write_ctrl_reserved_bits : (next? (on State.reset (.host (.write .word 0x000 0xFFFF_FFFF#32)))).map (Reg.read .ctrl) = some 0x0000_0007#32 := by decide +kernel
theorem test_write_lenchk_reserved_bits : (next? (on State.reset (.host (.write .word 0x014 0xFFFF_FFFF#32)))).map (Reg.read .lenchk) = some 0x0000_03FF#32 := by decide +kernel
theorem test_write_last_payload_element : (next? (on State.reset (.host (.write .word 0x7F8 0x1FF#32)))).map (Reg.read (.txPayload 254)) = some 0x0000_00FF#32 := by decide +kernel
-- V89: read-only.
theorem test_write_dbuf_ignored : (next? (on State.reset (.host (.write .word 0xC00 1#32)))).map (fun t => (t.mem, t.cmdErr)) = some ([], false) := by decide +kernel
-- V75: W1C.
theorem test_w1c : statusOf (on { readyQuery with done := true, cmdErr := true } (.host (.write .word 0x020 0x82#32))) = some 0#32 := by decide +kernel
-- R43.
theorem test_halfword_access_refused : on State.reset (.host (.read .half 0)) = .refused .undefinedAccess := rfl
theorem test_misaligned_access_refused : on State.reset (.host (.write .word 0x002 0#32)) = .refused .undefinedAccess := rfl
theorem test_access_outside : on State.reset (.host (.read .word 0x1000)) = .fault .outsideRegisterSpace := rfl
-- R190: clearing DONE in the cycle of the completion leaves DONE = 1.
theorem test_cycle_w1c : statusOf (on (inSend readyQuery .txCk 0#9) (.cycle ⟨true, false, true, some (.write .word 0x020 2#32), false⟩)) = some 0x0000_0002#32 := by
  decide +kernel

/-! ### The requests and the driver -/

/-- The wire image and the operand registers after a request. -/
def requestSeen (o : Host.Outcome State Fault Refusal) : Option (List Byte × Word × Byte) :=
  (next? o).map fun t => (t.wire, t.lenchk.toWord, t.rxSrcExpect)

-- P1, V24; P5, V38 to V41; V32; V30.
theorem test_mCommsRev : requestSeen (exec (.mCommsRev 3#8 0#8 1#8) ready) = some ([0x03#8, 0x00#8, 0x01#8, 0x04#8, 0xF8#8], 0x103#32, 3#8) := by decide +kernel
theorem test_mRdMinh : requestSeen (exec (.mRdMinh 3#8 0#8 1#8) ready) = some ([0x03#8, 0x00#8, 0x01#8, 0xE3#8, 0x19#8], 0#32, 3#8) := by decide +kernel
theorem test_mModMinh : requestSeen (exec (.mModMinh 2#8 1#8 1#8) { ready with mem := [(0x400, 1#8)] }) =
    some ([0x02#8, 0x01#8, 0x01#8, 0xE4#8, 0x01#8, 0x17#8], 0#32, 2#8) := by decide +kernel
theorem test_mRdCredit : requestSeen (exec (.mRdCredit 2#8 0#8 1#8) ready) = some ([0x02#8, 0x00#8, 0x01#8, 0xE5#8, 0x18#8], 0x210#32, 2#8) := by decide +kernel
theorem test_mRdInh : requestSeen (exec (.mRdInh 3#8 0#8 1#8) ready) = some ([0x03#8, 0x00#8, 0x01#8, 0xE6#8, 0x16#8], 0#32, 3#8) := by decide +kernel
theorem test_mModInh : requestSeen (exec (.mModInh 2#8 2#8 1#8) { ready with mem := [(0x400, 0xFF#8), (0x404, 0xFF#8)] }) =
    some ([0x02#8, 0x02#8, 0x01#8, 0xE7#8, 0xFF#8, 0xFF#8, 0x16#8], 0#32, 2#8) := by decide +kernel
-- R67: method 1; 3 + 0 + 1 + 1 = 5, and 0x100 - 5 = 0xFB (R80).
theorem test_mReset : requestSeen (exec (.mReset 3#8 0#8 1#8) ready) = some ([0x03#8, 0x00#8, 0x01#8, 0x01#8, 0xFB#8], 0#32, 0#8) := by decide +kernel

/-- A driver that holds one Device with only the inhibit-status capability (P2). -/
def withDevice (s : State) (d : Device) (j : Job) (x : Exchange) (cs : List Call) : State := { s with driver := ⟨x, j, cs, [d], none⟩ }

/-- P2's Device. -/
def p2Device : Device := ⟨2#8, 0x0102#16, 0xFFFF#16, false, true⟩

-- P2: set_accept_coins(on) with only the inhibit status: method 231 with the mask.
theorem test_setAcceptCoins_mask :
    requestSeen (on (withDevice ready p2Device .idle .none [.setAcceptCoins 2#8 true]) .software) =
    some ([0x02#8, 0x02#8, 0x01#8, 0xE7#8, 0xFF#8, 0xFF#8, 0x16#8], 0#32, 2#8) := by decide +kernel
-- P5: the last probe failed.
theorem test_scan_four_failed_probes :
    (next? (on { ready with driver := ⟨.failed .rdTimeout, .scanProbe 3#8 0x0102#16 [false, false, false], [], [], none⟩ } .software)).map (fun t => t.driver.devices) =
    some [⟨3#8, 0x0102#16, 0xFFFF#16, false, false⟩] := by decide +kernel
-- S7: 254 to 255, 255 to 1.
theorem test_nextSequence : nextSequence 254#8 = 255#8 ∧ nextSequence 255#8 = 1#8 := by decide

-- R146: a request between a sequence's exchange and its result takes nothing over: the failed set_accept_coins is reported as failed.
theorem test_request_leaves_the_owners_result :
    ((next? (on (withDevice ready p2Device (.setAccept 2#8) (.failed .rdTimeout) []) (.request 0xE501_0002#32))).map fun s => s.driver.exch) =
      some (.failed .rdTimeout) := by decide +kernel
theorem test_failed_setAccept_is_reported :
    ((next? (on (withDevice ready p2Device (.setAccept 2#8) (.failed .rdTimeout) []) .software)).map fun s => s.driver.result) =
      some (some (.failure .transportError)) := by decide +kernel

/-! ### Witnesses: for each statement with hypotheses, values that meet all of them; each clause at a boundary -/

/-- A state whose next turn is `e`, and nothing after it. -/
def turn (s : State) (e : Event) : State := { s with agenda := [e] }

/-- A host write of a word. -/
abbrev wr (off : Nat) (v : Word) : Event := .host (.write .word off v)

-- The agenda of each state `turn s e` is `e :: []`, whatever `s`: the hypothesis on the agenda of every statement below.
theorem turn_agenda (s : State) (e : Event) : (turn s e).agenda = e :: [] := rfl

/-- A receive command waiting for the last byte of `01 00 02 00 FD` (V53). -/
def lastByte (o : Op) (b : Byte) : State := inReceive ready o .rxCk 0#9 [1#8, 0#8, 2#8, 0#8] [b]

/-- A state with a validated frame to show. -/
def showing (stg : List Byte) : State := { ready with rxValid := true, rxStg := stg }

/-- The invariant as a Boolean, piece by piece. -/
def invB (s : State) : Bool :=
  decide (SequencerOk s) && decide (OperationOk s) && decide (StagingOk s) && decide (ViewOk s) && decide (ReportOk s) &&
    decide (BuffersOk s) && devicesWf s.driver.devices && decide (ExchangeOk s)
theorem inv_of_invB (s : State) (h : invB s = true) : Inv s := by
  simp only [invB, Bool.and_eq_true, decide_eq_true_eq] at h
  obtain ⟨⟨⟨⟨⟨⟨⟨h1, h2⟩, h3⟩, h4⟩, h5⟩, h6⟩, h7⟩, h8⟩ := h
  exact ⟨h1, h2, h3, h4, h5, h6, h7, h8⟩
theorem inv_ready : Inv (turn ready .tick) := inv_of_invB _ (by decide +kernel)
theorem inv_sending_first (e : Event) : Inv (turn (inSend readyQuery .txHdr 0#9) e) :=
  inv_of_invB _ (show invB (inSend readyQuery .txHdr 0#9) = true by decide +kernel)
theorem inv_sending_last : Inv (turn (inSend readyQuery .txCk 0#9) .txAccept) := inv_of_invB _ (by decide +kernel)
theorem inv_last_byte_good : Inv (turn (lastByte .recv 0xFD#8) .rxByte) := inv_of_invB _ (by decide +kernel)
theorem inv_last_byte_good_data : Inv (turn (lastByte .recvData 0xFD#8) .rxByte) := inv_of_invB _ (by decide +kernel)
theorem inv_last_byte_bad : Inv (turn (lastByte .recvStatus 0xFC#8) .rxByte) := inv_of_invB _ (by decide +kernel)

theorem witness_CommandIsTheLowByteAlone : (0x100#32).toNat % 256 = (0#32).toNat % 256 ∧ 5 ≤ (5#32).toNat % 256 ∧ 5 ≤ (0xFFFF_FFFF#32).toNat % 256 := by decide
theorem witness_StepRunsTheDecodedInstruction :
    (turn ready (.host (.write .word 0x01C 1#32))).agenda = .host (.write .word 0x01C 1#32) :: [] ∧ decodeCmd 1#32 = .ok .send ∧
    (turn ready (.request 0x0401_0003#32)).agenda = .request 0x0401_0003#32 :: [] ∧ decodeRequest 0x0401_0003#32 = .ok (.mCommsRev 3#8 0#8 1#8) ∧
    decodeTableWord 8 4 = some .recvData ∧ decodeTableWord 32 0xE7FFFFFF = some (.mModInh 0xFF#8 0xFF#8 0xFF#8) := by
  exact ⟨rfl, rfl, rfl, rfl, by decide, by decide⟩
theorem witness_SimpleCheckByteMakesTheSumZero : byteSum [0x80#8, 0x80#8] % 256 = 0 ∧ [1#8, 2#8].Perm [2#8, 1#8] :=
  ⟨by decide, List.Perm.swap 2#8 1#8 []⟩
theorem witness_SimpleValidationIsTheZeroSum : okSimple [3#8, 0#8, 1#8, 4#8, 0xF8#8] = true ∧ (4 : Nat) < 5 ∧
    (0xF9#8 : Byte) ≠ [3#8, 0#8, 1#8, 4#8, 0xF8#8].getD 4 0#8 ∧ (0 : Nat) ≠ 4 := by decide
theorem witness_CcittValidationDetectsEveryChangedByte :
    okCcitt 0#16 [3#8, 0#8, 0x69#8, 4#8, 0xE8#8] 1#8 = true ∧ 5 ≤ [3#8, 0#8, 0x69#8, 4#8, 0xE8#8].length ∧ (2#8 : Byte) ≠ 1#8 ∧
    (0#8 : Byte) ≠ [3#8, 0#8, 0x69#8, 4#8, 0xE8#8].getD 0 0#8 ∧ (0#8 : Byte) ≠ [3#8, 0#8, 0x69#8, 4#8, 0xE8#8].getD 4 0#8 := by decide +kernel
theorem witness_EncodedFramesRoundTrip : ([] : List Byte).length ≤ 255 ∧ (List.replicate 255 0xFF#8).length ≤ 255 := by decide +kernel
theorem witness_CorruptedTrailingByteIsInvalid :
    frameOk .simple 0#16 0#8 [3#8, 0#8, 1#8, 4#8, 0xF8#8] = true ∧ frameOk .ccitt 0#16 1#8 [3#8, 0#8, 0x69#8, 4#8, 0xE8#8] = true ∧
    (0#8 : Byte) ≠ [3#8, 0#8, 1#8, 4#8, 0xF8#8].getD 4 0#8 := by decide +kernel
theorem witness_HostWriteStoresTheWritableBits :
    ∀ off ∈ [0x000, 0x018, 0x024, 0x034, 0x400, 0x7F8, 0x7FC, 0xC00, 0xFF8, 0xFFC],
      (turn ready (wr off 0xFFFF_FFFF#32)).agenda = wr off 0xFFFF_FFFF#32 :: [] ∧ off % 4 = 0 ∧ off < 0x1000 ∧ off ≠ 0x01C ∧ off ≠ 0x020 ∧
      (turn ready (wr off 0xFFFF_FFFF#32)).busy = false ∧ (turn ready (wr off 0xFFFF_FFFF#32)).mem.wf = true := by decide +kernel
theorem witness_StatusWriteClearsDoneAndCmdErr :
    (turn { ready with done := true, cmdErr := true } (wr 0x020 0x82#32)).agenda = wr 0x020 0x82#32 :: [] ∧
    (0x82#32).toNat.testBit 1 = true ∧ (0x82#32).toNat.testBit 7 = true := by decide +kernel
theorem witness_OperandsAreLockedWhileBusy :
    (∀ off ∈ [0x000, 0x018, 0x400, 0x7F8],
      (turn (inSend readyQuery .txHdr 0#9) (wr off 0#32)).agenda = wr off 0#32 :: [] ∧ off % 4 = 0 ∧ (off ≤ 0x018 ∨ (0x400 ≤ off ∧ off ≤ 0x7F8)) ∧
      (turn (inSend readyQuery .txHdr 0#9) (wr off 0#32)).busy = true) ∧
    (turn (inSend readyQuery .txHdr 0#9) .tick).busy = true ∧
    (next? (step (turn (inSend readyQuery .txHdr 0#9) .tick))).map (fun t => t.busy) = some true := by decide +kernel
theorem witness_HostAccessesReadOrStop :
    (∀ off ∈ [0x000, 0x01C, 0xFFC], (turn ready (.host (.read .word off))).agenda = .host (.read .word off) :: [] ∧ off % 4 = 0 ∧ off < 0x1000) ∧
    (∀ off ∈ [0x034, 0x3FC, 0x7FC, 0xBFC, 0xFFC],
      off % 4 = 0 ∧ ((0x034 ≤ off ∧ off ≤ 0x3FF) ∨ off = 0x7FC ∨ off = 0xBFC ∨ off = 0xFFC) ∧ (turn ready (wr off 1#32)).agenda = wr off 1#32 :: []) ∧
    ((turn ready (.host (.read .half 0xFFE))).agenda = .host (.read .half 0xFFE) :: [] ∧ 0xFFE < 0x1000 ∧ AccessSize.half ≠ .word) ∧
    ((turn ready (wr 0x001 1#32)).agenda = wr 0x001 1#32 :: [] ∧ 0x001 < 0x1000 ∧ 0x001 % 4 ≠ 0) ∧
    ((turn ready (wr 0x1000 1#32)).agenda = wr 0x1000 1#32 :: [] ∧ 0x1000 ≤ 0x1000) := by decide +kernel
theorem witness_RxViewShowsTheFrameOrNothing :
    ((showing (wireFrame 1#8 0#8 2#8 0#8 [] 0xFD#8)).rxValid = true ∧ ([] : List Byte).length = (0#8 : Byte).toNat ∧
      (showing (wireFrame 1#8 0#8 2#8 0#8 [] 0xFD#8)).rxStg = wireFrame 1#8 0#8 2#8 0#8 [] 0xFD#8) ∧
    ((showing (wireFrame 255#8 255#8 255#8 255#8 (List.replicate 255 255#8) 3#8)).rxValid = true ∧ (List.replicate 255 (255#8 : Byte)).length = (255#8 : Byte).toNat ∧
      (showing (wireFrame 255#8 255#8 255#8 255#8 (List.replicate 255 255#8) 3#8)).rxStg = wireFrame 255#8 255#8 255#8 255#8 (List.replicate 255 255#8) 3#8) ∧
    ready.rxValid = false := by decide +kernel
theorem witness_NopHasNoEffect :
    (0xFFFF_FF00#32).toNat % 256 = 0 ∧ (turn (inSend readyQuery .txHdr 0#9) (wr 0x01C 0xFFFF_FF00#32)).agenda = wr 0x01C 0xFFFF_FF00#32 :: [] := by
  decide +kernel
theorem witness_SendStartsTransmitting : ready.busy = false ∧ ready.timeoutMs ≠ 0#32 := by decide
theorem witness_ReceiveCommandsStartListening : ready.busy = false ∧ ready.timeoutMs ≠ 0#32 ∧ ready.lenchk.lenMode ≠ .reserved := by decide
theorem witness_ZeroTimeoutFailsAtAcceptance : State.reset.busy = false ∧ State.reset.timeoutMs = 0#32 ∧ State.reset.lenchk.lenMode ≠ .reserved := by decide
theorem witness_StatusAndResultFieldPositions : 254 < 255 := by decide
theorem witness_ReservedLengthModeFailsAtOnce :
    State.busy { ready with lenchk := ⟨0#8, .reserved⟩ } = false ∧ (State.lenchk { ready with lenchk := ⟨0#8, .reserved⟩ }).lenMode = .reserved := by decide
theorem witness_RefusedWritesOnlySetCmdErr :
    (∀ n ∈ [1, 4], (turn (inSend readyQuery .txHdr 0#9) (wr 0x01C (BitVec.ofNat 32 n))).agenda = wr 0x01C (BitVec.ofNat 32 n) :: [] ∧
      1 ≤ (BitVec.ofNat 32 n).toNat % 256 ∧ (BitVec.ofNat 32 n).toNat % 256 ≤ 4 ∧ (turn (inSend readyQuery .txHdr 0#9) (wr 0x01C (BitVec.ofNat 32 n))).busy = true) ∧
    (∀ n ∈ [5, 0xFF], (turn ready (wr 0x01C (BitVec.ofNat 32 n))).agenda = wr 0x01C (BitVec.ofNat 32 n) :: [] ∧ 5 ≤ (BitVec.ofNat 32 n).toNat % 256) ∧
    (∀ off ∈ [0x000, 0x018, 0x400, 0x7F8], (turn (inSend readyQuery .txHdr 0#9) (wr off 1#32)).agenda = wr off 1#32 :: [] ∧ off % 4 = 0 ∧
      (off ≤ 0x018 ∨ (0x400 ≤ off ∧ off ≤ 0x7F8)) ∧ (turn (inSend readyQuery .txHdr 0#9) (wr off 1#32)).busy = true) := by decide +kernel
theorem witness_CommandsLeaveTheRestAlone :
    (next? (exec .send ready)).isSome = true ∧ (next? (exec .recv ready)).isSome = true ∧ (next? (exec .recvStatus ready)).isSome = true ∧
    (next? (exec .recvData ready)).isSome = true ∧ (next? (exec .nop ready)).isSome = true := by decide +kernel
theorem witness_RequestsStartTheirExchange : ready.busy = false ∧ ready.timeoutMs ≠ 0#32 := by decide
theorem witness_ResetRequestIsOnlySent : readyCcitt.busy = false ∧ readyCcitt.timeoutMs ≠ 0#32 := by decide
theorem witness_RequestsLeaveTheRestAlone :
    (Instr.mReset 0#8 0#8 0#8).isRequest = true ∧ (next? (exec (.mReset 0#8 0#8 0#8) ready)).isSome = true ∧
    (next? (exec (.mModInh 255#8 2#8 255#8) (inSend readyQuery .txHdr 0#9))).isSome = true ∧ (inSend readyQuery .txHdr 0#9).busy = true ∧
    (next? (exec (.mModInh 255#8 2#8 255#8) (withDevice ready p2Device .idle .receiving []))).isSome = true ∧
    (withDevice ready p2Device .idle .receiving []).driver.exch.inProgress = true ∧
    (next? (exec (.mModInh 255#8 2#8 255#8) (withDevice ready p2Device (.setAccept 2#8) (.failed .rdTimeout) []))).isSome = true ∧
    (withDevice ready p2Device (.setAccept 2#8) (.failed .rdTimeout) []).driver.job ≠ .idle ∧
    (withDevice ready p2Device (.setAccept 2#8) (.failed .rdTimeout) []).driver.exch ≠ .none := by decide +kernel
theorem witness_RequestWordIsTheHeaderOnTheWire :
    (Instr.mRdCredit 255#8 0#8 1#8).isRequest = true ∧ ready.busy = false ∧ ready.timeoutMs ≠ 0#32 ∧
    (next? (exec (.mRdCredit 255#8 0#8 1#8) ready)).isSome = true ∧ ready.ctrl.ckMode = .simple := by decide +kernel
theorem witness_WindowEndsOnItsLastTick :
    (turn ready .tick).agenda = .tick :: [] ∧ (turn ready .tick).phase = .idle ∧
    ((turn (inSend readyQuery .txHdr 3#9) .tick).phase ≠ .idle ∧
      (turn (inSend readyQuery .txHdr 3#9) .tick).elapsed.toNat + 1 < (turn (inSend readyQuery .txHdr 3#9) .tick).timeoutMs.toNat) ∧
    ((turn { inSend readyQuery .txHdr 3#9 with elapsed := 1#32 } .tick).phase.isWrite = true ∧
      (turn { inSend readyQuery .txHdr 3#9 with elapsed := 1#32 } .tick).elapsed.toNat + 1 =
        (turn { inSend readyQuery .txHdr 3#9 with elapsed := 1#32 } .tick).timeoutMs.toNat) ∧
    ((turn { lastByte .recv 0#8 with timeoutMs := 0xFFFF_FFFF#32, elapsed := 0xFFFF_FFFE#32 } .tick).phase.isRead = true ∧
      (turn { lastByte .recv 0#8 with timeoutMs := 0xFFFF_FFFF#32, elapsed := 0xFFFF_FFFE#32 } .tick).elapsed.toNat + 1 =
        (turn { lastByte .recv 0#8 with timeoutMs := 0xFFFF_FFFF#32, elapsed := 0xFFFF_FFFE#32 } .tick).timeoutMs.toNat) := by
  decide +kernel
theorem witness_TxAcceptSendsTheNextByteOfTheImage :
    (Inv (turn ready .txAccept) ∧ (turn ready .txAccept).txValid = false) ∧
    (Inv (turn (inSend readyQuery .txCk 0#9) .txAccept) ∧ (turn (inSend readyQuery .txCk 0#9) .txAccept).txValid = true) ∧
    (Inv (turn (inSend readyQuery .txHdr 0#9) .txAccept) ∧ (turn (inSend readyQuery .txHdr 0#9) .txAccept).txValid = true ∧
      (turn (inSend readyQuery .txHdr 0#9) .txAccept).idx.toNat + 1 < (turn (inSend readyQuery .txHdr 0#9) .txAccept).toMove) :=
  ⟨⟨inv_of_invB _ (by decide +kernel), by decide⟩, ⟨inv_sending_last, by decide +kernel⟩, inv_sending_first _, by decide +kernel, by decide +kernel⟩
theorem witness_RxByteTakesTheOldestByte :
    (Inv (turn (lastByte .recv 0xFD#8) .rxByte) ∧ (turn (lastByte .recv 0xFD#8) .rxByte).rxReady = true ∧
      (turn (lastByte .recv 0xFD#8) .rxByte).rxFifo = 0xFD#8 :: []) ∧
    (Inv (turn (inReceive ready .recv .rxHdr 0#9 [] [1#8]) .rxByte) ∧ (turn (inReceive ready .recv .rxHdr 0#9 [] [1#8]) .rxByte).rxReady = true ∧
      (turn (inReceive ready .recv .rxHdr 0#9 [] [1#8]) .rxByte).rxFifo = 1#8 :: [] ∧
      (turn (inReceive ready .recv .rxHdr 0#9 [] [1#8]) .rxByte).idx.toNat + 1 < (turn (inReceive ready .recv .rxHdr 0#9 [] [1#8]) .rxByte).toMove) ∧
    (Inv (turn (inSend readyQuery .txHdr 0#9) .rxByte) ∧ (turn (inSend readyQuery .txHdr 0#9) .rxByte).rxReady = false) ∧
    (Inv (turn (inReceive ready .recv .rxHdr 0#9 [] []) .rxByte) ∧ (turn (inReceive ready .recv .rxHdr 0#9 [] []) .rxByte).rxFifo = []) :=
  ⟨⟨inv_last_byte_good, by decide +kernel, rfl⟩, ⟨inv_of_invB _ (by decide +kernel), by decide +kernel, rfl, by decide +kernel⟩,
    ⟨inv_sending_first _, by decide +kernel⟩, inv_of_invB _ (by decide +kernel), rfl⟩
/-- SEND of the version query and five TxAccepts. -/
def sendRun : State :=
  { readyQuery with agenda := .host (.write .word 0x01C 0x01#32) :: (List.replicate (5 + readyQuery.txHdr.len.toNat) .txAccept ++ []) }
theorem witness_SendPutsTheImageOnTheLine :
    sendRun.busy = false ∧ sendRun.timeoutMs ≠ 0#32 ∧ sendRun.ctrl.echoEn = false ∧
    sendRun.agenda = .host (.write .word 0x01C 0x01#32) :: (List.replicate (5 + sendRun.txHdr.len.toNat) .txAccept ++ []) :=
  ⟨rfl, by decide, rfl, rfl⟩

/-- SEND with echo verification, its five TxAccepts and the echo `03 00 69 04 E9` (V45). -/
def echoRun : State :=
  { readyCcitt with
    rxFifo := [0x03#8, 0x00#8, 0x69#8, 0x04#8, 0xE9#8]
    agenda := .host (.write .word 0x01C 0x01#32) :: (List.replicate (5 + readyCcitt.txHdr.len.toNat) .txAccept ++
      (List.replicate (5 + readyCcitt.txHdr.len.toNat) .rxByte ++ [])) }
theorem witness_EchoDecidesWhetherSendSucceeds :
    echoRun.busy = false ∧ echoRun.timeoutMs ≠ 0#32 ∧ echoRun.ctrl.echoEn = true ∧
    [0x03#8, 0x00#8, 0x69#8, 0x04#8, 0xE9#8].length = 5 + echoRun.txHdr.len.toNat ∧ echoRun.rxFifo = [0x03#8, 0x00#8, 0x69#8, 0x04#8, 0xE9#8] ++ [] ∧
    [0x03#8, 0x00#8, 0x69#8, 0x04#8, 0xE9#8] ≠ echoRun.buildWire ∧ [0x03#8, 0x00#8, 0x69#8, 0x04#8, 0xE8#8] = echoRun.buildWire := by
  decide +kernel

/-- RECV_DATA into four bytes and the seven bytes of V60. -/
def receiveRun : State :=
  { ready with
    dbufLen := 4#8
    rxFifo := wireFrame 1#8 2#8 3#8 0#8 [9#8, 9#8] 0xE8#8 ++ []
    agenda := .host (.write .word 0x01C 4#32) :: (List.replicate (5 + (2#8 : Byte).toNat) .rxByte ++ []) }
theorem witness_ReceiveDeliversAValidFrame :
    receiveRun.busy = false ∧ receiveRun.timeoutMs ≠ 0#32 ∧ receiveRun.lenchk.lenMode ≠ .reserved ∧ receiveRun.mem.wf = true ∧
    [9#8, 9#8].length = (2#8 : Byte).toNat ∧
    frameOk receiveRun.ctrl.ckMode receiveRun.params.crcInit receiveRun.rxSrcExpect (wireFrame 1#8 2#8 3#8 0#8 [9#8, 9#8] 0xE8#8) = true ∧
    lenOk receiveRun.lenchk 2#8 = true ∧ receiveRun.rxFifo = wireFrame 1#8 2#8 3#8 0#8 [9#8, 9#8] 0xE8#8 ++ [] := by decide +kernel
-- The same at both ends of the length: an empty frame, and V34's 255 bytes.
theorem witness_ReceiveDeliversAValidFrame_lengths :
    frameOk .simple 0#16 0#8 (wireFrame 1#8 0#8 2#8 0#8 [] 0xFD#8) = true ∧
    frameOk .simple 0#16 0#8 (wireFrame 255#8 255#8 255#8 255#8 (List.replicate 255 255#8) 3#8) = true := by decide +kernel
theorem witness_BadChecksumDeliversNothing :
    Inv (turn (lastByte .recvStatus 0xFC#8) .rxByte) ∧ (lastByte .recvStatus 0xFC#8).phase = .rxCk ∧ (lastByte .recvStatus 0xFC#8).rxFifo = 0xFC#8 :: [] ∧
    frameOk .simple 0#16 0#8 ((lastByte .recvStatus 0xFC#8).rxStg ++ [0xFC#8]) = false :=
  ⟨inv_last_byte_bad, rfl, rfl, by decide +kernel⟩
theorem witness_WrongLengthKeepsTheFrameVisible :
    Inv (turn { lastByte .recv 0xFD#8 with lenchk := ⟨1#8, .min⟩ } .rxByte) ∧
    frameOk .simple 0#16 0#8 ((lastByte .recv 0xFD#8).rxStg ++ [0xFD#8]) = true ∧ lenOk ⟨1#8, .min⟩ 0#8 = false :=
  ⟨inv_of_invB _ (by decide +kernel), by decide +kernel, by decide⟩
theorem witness_LastByteDeliversStatusAndCopy :
    Inv (turn (lastByte .recv 0xFD#8) .rxByte) ∧ Inv (turn (lastByte .recvData 0xFD#8) .rxByte) ∧
    frameOk .simple 0#16 0#8 ((lastByte .recvData 0xFD#8).rxStg ++ [0xFD#8]) = true ∧ lenOk (lastByte .recvData 0xFD#8).lenchk 0#8 = true :=
  ⟨inv_last_byte_good, inv_last_byte_good_data, by decide +kernel, by decide⟩
theorem witness_CompletionIsOneStep :
    Inv (turn (inSend readyQuery .txCk 0#9) .txAccept) ∧ (inSend readyQuery .txCk 0#9).busy = true ∧
    (next? (step (turn (inSend readyQuery .txCk 0#9) .txAccept))).map (fun t => t.busy) = some false :=
  ⟨inv_sending_last, by decide, by decide +kernel⟩
theorem witness_FailureLeavesTheRest :
    Inv (turn (lastByte .recvStatus 0xFC#8) .rxByte) ∧ (lastByte .recvStatus 0xFC#8).busy = true ∧
    (next? (step (turn (lastByte .recvStatus 0xFC#8) .rxByte))).map (fun t => (t.busy, t.err)) = some (false, .integrity) ∧
    Inv (turn { inSend readyQuery .txHdr 2#9 with elapsed := 1#32 } .tick) ∧
    (next? (step (turn { inSend readyQuery .txHdr 2#9 with elapsed := 1#32 } .tick))).map (fun t => (t.busy, t.err)) = some (false, .wrTimeout) :=
  ⟨inv_last_byte_bad, by decide, by decide +kernel, inv_of_invB _ (by decide +kernel), by decide +kernel⟩
theorem witness_StreamsAreHalfDuplex :
    ((turn (inSend readyQuery .txHdr 0#9) .txAccept).txValid = true ∧ (∀ b, Event.txAccept ≠ .arrive b) ∧ (∀ n, Event.txAccept ≠ .lose n) ∧
      (next? (step (turn (inSend readyQuery .txHdr 0#9) .txAccept))).map (fun t => t.txLine) = some [3#8]) ∧
    ((turn (lastByte .recv 0xFD#8) .rxByte).rxReady = true ∧ (∀ b, Event.rxByte ≠ .arrive b) ∧ (∀ n, Event.rxByte ≠ .lose n) ∧
      (next? (step (turn (lastByte .recv 0xFD#8) .rxByte))).map (fun t => t.rxFifo) = some []) ∧
    ready.phase = .idle :=
  ⟨⟨by decide +kernel, nofun, nofun, by decide +kernel⟩,
    ⟨by decide +kernel, nofun, nofun, by decide +kernel⟩, rfl⟩
theorem witness_OnlyResetEndsAnOperationEarly :
    (∀ e ∈ [wr 0x008 0#32, wr 0x01C 1#32, wr 0x020 0xFF#32, .request 0x0401_0003#32, .call (.scan 3#8), .software],
      (turn (inSend readyQuery .txHdr 0#9) e).agenda = e :: [] ∧ (turn (inSend readyQuery .txHdr 0#9) e).busy = true ∧
      (next? (step (turn (inSend readyQuery .txHdr 0#9) e))).isSome = true) ∧
    (turn (inSend readyQuery .txHdr 0#9) .reset).agenda = .reset :: [] := by decide +kernel
theorem witness_IrqFollowsDone :
    ((2#32).toNat.testBit 1 = true ∧ (turn ready (wr 0x020 2#32)).agenda = wr 0x020 2#32 :: []) ∧
    (turn ready .reset).agenda = .reset :: [] ∧
    (ready.busy = false ∧ (next? (exec .send ready)).map (fun t => t.busy) = some true) ∧
    (Inv (turn { inSend readyQuery .txCk 0#9 with ctrl := ⟨.simple, false, true⟩ } .txAccept) ∧
      (turn { inSend readyQuery .txCk 0#9 with ctrl := ⟨.simple, false, true⟩ } .txAccept).irq = false ∧
      (next? (step (turn { inSend readyQuery .txCk 0#9 with ctrl := ⟨.simple, false, true⟩ } .txAccept))).map State.irq = some true) :=
  ⟨by decide +kernel, by decide +kernel, by decide +kernel, inv_of_invB _ (by decide +kernel), by decide +kernel, by decide +kernel⟩
-- The other two ways: SEND with TIMEOUT_MS = 0, and IRQ_EN set while DONE = 1, alone or in a clock cycle.
theorem witness_IrqFollowsDone_idle :
    (Inv (turn { State.reset with ctrl := ⟨.simple, true, true⟩ } (wr 0x01C 1#32)) ∧
      (next? (step (turn { State.reset with ctrl := ⟨.simple, true, true⟩ } (wr 0x01C 1#32)))).map State.irq = some true) ∧
    (Inv (turn { ready with done := true } (wr 0x000 4#32)) ∧
      (next? (step (turn { ready with done := true } (wr 0x000 4#32)))).map State.irq = some true) ∧
    (Inv (turn { ready with done := true } (.cycle ⟨false, false, true, some (.write .word 0x000 4#32), false⟩)) ∧
      (next? (step (turn { ready with done := true } (.cycle ⟨false, false, true, some (.write .word 0x000 4#32), false⟩)))).map State.irq = some true) :=
  ⟨⟨inv_of_invB _ (by decide +kernel), by decide +kernel⟩, ⟨inv_of_invB _ (by decide +kernel), by decide +kernel⟩,
    inv_of_invB _ (by decide +kernel), by decide +kernel⟩
theorem witness_ResetGivesEveryRegisterItsValue :
    (turn (inSend readyQuery .txHdr 2#9) .reset).agenda = .reset :: [] ∧ 0xFFC % 4 = 0 ∧ 0xFFC < 0x1000 := by decide +kernel
theorem witness_ResetAbandonsTheOperation :
    (turn (inSend readyQuery .txHdr 2#9) .reset).agenda = .reset :: [] ∧ (turn (inSend readyQuery .txHdr 2#9) .reset).busy = true := by decide +kernel
/-- The phase a step on an agenda of this event leads to. -/
def phaseAfter (s : State) (e : Event) : Option Phase := (next? (step (turn s e))).map fun t => t.phase
theorem witness_SequencerMovesAsTheTableSays :
    Inv (turn (inSend readyQuery .txHdr 3#9) .txAccept) ∧ (∀ c, Event.txAccept ≠ .cycle c) ∧
    Inv (turn (inSend readyQuery .txHdr 3#9) .reset) ∧ (∀ c, Event.reset ≠ .cycle c) ∧ Inv (turn ready (wr 0x01C 2#32)) ∧
    Inv (turn (inReceive ready .recv .rxHdr 3#9 [1#8, 0#8, 2#8] [0#8]) .rxByte) ∧ Inv (turn (inReceive ready .recv .rxHdr 3#9 [1#8, 1#8, 2#8] [0#8]) .rxByte) ∧
    Inv (turn (inSend readyQuery .txCk 0#9) .txAccept) ∧ Inv (turn (lastByte .recv 0xFD#8) .rxByte) :=
  ⟨inv_of_invB _ (by decide +kernel), nofun, inv_of_invB _ (by decide +kernel), nofun, inv_of_invB _ (by decide +kernel), inv_of_invB _ (by decide +kernel),
    inv_of_invB _ (by decide +kernel), inv_sending_last, inv_last_byte_good⟩
theorem witness_SequencerMovesAsTheTableSays_moves :
    phaseAfter (inSend readyQuery .txHdr 3#9) .txAccept = some .txCk ∧ phaseAfter (inSend readyQuery .txHdr 3#9) .reset = some .idle ∧
    phaseAfter ready (wr 0x01C 2#32) = some .rxHdr ∧
    phaseAfter (inReceive ready .recv .rxHdr 3#9 [1#8, 0#8, 2#8] [0#8]) .rxByte = some .rxCk ∧
    phaseAfter (inReceive ready .recv .rxHdr 3#9 [1#8, 1#8, 2#8] [0#8]) .rxByte = some .rxPayload ∧
    phaseAfter (inSend readyQuery .txCk 0#9) .txAccept = some .idle ∧ phaseAfter (lastByte .recv 0xFD#8) .rxByte = some .idle := by decide +kernel
theorem witness_EveryStepKeepsTheInvariant :
    Inv (turn (inSend readyQuery .txHdr 0#9) .txAccept) ∧ (next? (step (turn (inSend readyQuery .txHdr 0#9) .txAccept))).isSome = true :=
  ⟨inv_sending_first _, by decide +kernel⟩
theorem witness_EveryOperationCompletes :
    Inv { inSend readyQuery .txHdr 0#9 with agenda := [.tick, .tick, .tick, .tick] } ∧ (inSend readyQuery .txHdr 0#9).busy = true ∧
    State.tickBudget { inSend readyQuery .txHdr 0#9 with agenda := [.tick, .tick, .tick, .tick] } ≤ tickCount [.tick, .tick, .tick, .tick] ∧
    (∀ e ∈ [Event.tick, .tick, .tick, .tick], e.isLineEvent = true) :=
  ⟨inv_of_invB _ (by decide +kernel), by decide, by decide +kernel, by decide⟩

/-- The reset state, and the same with other hidden state. -/
theorem witness_HiddenStateIsUnobservable :
    SameButHidden State.reset { State.reset with op := .recvData, wire := [1#8], echoStg := [2#8], rxStg := [3#8, 4#8], rxModeL := .ccitt, rxExpL := 5#8 } := by
  constructor <;> first | rfl | (intro h; revert h; decide)
theorem witness_ResultsAreStableUntilTheNextCommand :
    Inv (turn ready .tick) ∧ Inv (turn ready (.call (.scan 3#8))) ∧ Inv (turn ready (.host (.read .word 0x020))) ∧ Inv (turn ready (wr 0x020 2#32)) ∧
    ready.busy = false ∧ Event.tick.isLineEvent = true ∧ (0x020 : Nat) ≠ 0x01C ∧
    (∀ e ∈ [Event.tick, .call (.scan 3#8), .host (.read .word 0x020), wr 0x020 2#32], (next? (step (turn ready e))).isSome = true) :=
  ⟨inv_ready, inv_of_invB _ (by decide +kernel), inv_of_invB _ (by decide +kernel), inv_of_invB _ (by decide +kernel), rfl, rfl, by decide, by decide +kernel⟩
theorem witness_EngineNeverWritesTheOperands :
    ∀ e ∈ [Event.txAccept, .rxByte, .tick, .arrive 1#8, .lose 0],
      (turn (lastByte .recvData 0xFD#8) e).agenda = e :: [] ∧ e.isLineEvent = true ∧ (next? (step (turn (lastByte .recvData 0xFD#8) e))).isSome = true := by
  decide +kernel
/-- A clock cycle with the last byte's transfer, a tick, and this host access. -/
def lastCycle (a : Option HostAccess) (rst : Bool) : Event := .cycle ⟨true, false, true, a, rst⟩
theorem witness_EventsOfOneCycleAreOrdered :
    (∀ a ∈ [none, some (HostAccess.read .word 0x020), some (.write .word 0x020 2#32), some (.write .word 0x01C 1#32)],
      (turn (inSend readyQuery .txCk 0#9) (lastCycle a false)).agenda = lastCycle a false :: []) ∧
    (turn (inSend readyQuery .txCk 0#9) (lastCycle none true)).agenda = lastCycle none true :: [] ∧
    (inSend readyQuery .txCk 0#9).busy = true ∧ (inSend readyQuery .txCk 0#9).txValid = true ∧ 0x020 % 4 = 0 ∧ 0x020 < 0x1000 ∧
    (tick (txAccept (inSend readyQuery .txCk 0#9))).busy = false ∧ (tick (txAccept (inSend readyQuery .txCk 0#9))).timeoutMs ≠ 0#32 := by decide +kernel

/-- A turn of the driver software, the driver being at `j` with exchange `x` and these calls waiting. -/
def driving (d : Device) (j : Job) (x : Exchange) (cs : List Call) : State := turn (withDevice ready d j x cs) .software
theorem driving_agenda (d : Device) (j : Job) (x : Exchange) (cs : List Call) : (driving d j x cs).agenda = .software :: [] := rfl
theorem witness_ExchangeWaitsThenReceives :
    ((driving p2Device .idle (.sending (some .recvStatus)) []).driver.exch.inProgress = true ∧ (driving p2Device .idle (.sending (some .recvStatus)) []).done = false) ∧
    ((driving p2Device .idle .receiving []).driver.exch.inProgress = true ∧ State.done { driving p2Device .idle .receiving [] with done := true, err := .length } = true ∧
      State.err { driving p2Device .idle .receiving [] with done := true, err := .length } ≠ .none) ∧
    (State.done { driving p2Device .idle (.sending (some .recvStatus)) [] with done := true } = true ∧ Op.recvStatus.isRecv = true ∧
      (driving p2Device .idle (.sending (some .recvStatus)) []).err = .none ∧ (driving p2Device .idle (.sending (some .recvStatus)) []).busy = false ∧
      (driving p2Device .idle (.sending (some .recvStatus)) []).timeoutMs ≠ 0#32 ∧
      (driving p2Device .idle (.sending (some .recvStatus)) []).lenchk.lenMode ≠ .reserved) ∧
    (State.timeoutMs { driving p2Device .idle (.sending (some .recvStatus)) [] with done := true, timeoutMs := 0#32 } = 0#32 ∧
      (State.lenchk { driving p2Device .idle (.sending (some .recvStatus)) [] with done := true, lenchk := ⟨0#8, .reserved⟩ }).lenMode = .reserved) ∧
    ((driving p2Device .idle (.sending none) []).driver.exch = .sending none ∧ (driving p2Device .idle .receiving []).driver.exch = .receiving ∧
      State.done { driving p2Device .idle .receiving [] with done := true } = true ∧ (driving p2Device .idle .receiving []).err = .none) := by decide +kernel
theorem witness_ScanBuildsTheDevice :
    ((driving p2Device .idle .none [.scan 3#8]).driver.job = .idle ∧ (driving p2Device .idle .none [.scan 3#8]).driver.exch.inProgress = false ∧
      (driving p2Device .idle .none [.scan 3#8]).driver.calls = .scan 3#8 :: [] ∧ (driving p2Device .idle .none [.scan 3#8]).busy = false ∧
      (driving p2Device .idle .none [.scan 3#8]).timeoutMs ≠ 0#32) ∧
    ((driving p2Device (.scanVersion 3#8) (.failed .length) []).driver.job = .scanVersion 3#8 ∧
      (driving p2Device (.scanVersion 3#8) (.failed .length) []).driver.exch = .failed .length) ∧
    ((driving p2Device (.scanVersion 3#8) .succeeded []).driver.exch = .succeeded ∧ (driving p2Device (.scanVersion 3#8) .succeeded []).busy = false) ∧
    (∀ bs ∈ [[], [true, false], [true, true, true]],
      (driving p2Device (.scanProbe 3#8 0x0102#16 bs) (.failed .rdTimeout) []).driver.job = .scanProbe 3#8 0x0102#16 bs ∧
      (driving p2Device (.scanProbe 3#8 0x0102#16 bs) (.failed .rdTimeout) []).driver.exch = .failed .rdTimeout ∧
      (false = true ↔ (driving p2Device (.scanProbe 3#8 0x0102#16 bs) (.failed .rdTimeout) []).driver.exch = .succeeded ∧
        (driving p2Device (.scanProbe 3#8 0x0102#16 bs) (.failed .rdTimeout) []).result.statusValid = true ∧
        (driving p2Device (.scanProbe 3#8 0x0102#16 bs) (.failed .rdTimeout) []).result.statusByte = 0#8)) ∧
    (true = true ↔ State.result { driving p2Device (.scanProbe 3#8 0#16 [true, true, true]) .succeeded [] with result := ⟨0#8, true, false, 0#8⟩ } = ⟨0#8, true, false, 0#8⟩ ∧
      (driving p2Device (.scanProbe 3#8 0#16 [true, true, true]) .succeeded []).driver.exch = .succeeded) := by decide +kernel
theorem witness_SetAcceptCoinsChoosesItsCommand :
    ∀ d ∈ [p2Device, ⟨2#8, 0#16, 0#16, true, true⟩],
      (driving d .idle .none [.setAcceptCoins 2#8 true]).driver.job = .idle ∧ (driving d .idle .none [.setAcceptCoins 2#8 true]).driver.exch.inProgress = false ∧
      (driving d .idle .none [.setAcceptCoins 2#8 true]).driver.calls = .setAcceptCoins 2#8 true :: [] ∧
      findDevice (driving d .idle .none [.setAcceptCoins 2#8 true]).driver.devices 2#8 = some d ∧
      (driving d .idle .none [.setAcceptCoins 2#8 true]).busy = false ∧ (driving d .idle .none [.setAcceptCoins 2#8 true]).timeoutMs ≠ 0#32 ∧
      (driving d .idle .none [.setAcceptCoins 2#8 true]).mem.wf = true ∧
      (d.hasMasterInhibit = true ∨ (d.hasMasterInhibit = false ∧ d.hasInhibitStatus = true)) := by decide +kernel
theorem witness_SetAcceptCoinsChoosesItsCommand_returns :
    (driving p2Device (.setAccept 2#8) .succeeded []).driver.job = .setAccept 2#8 ∧ (driving p2Device (.setAccept 2#8) .succeeded []).driver.exch = .succeeded ∧
    (driving p2Device (.setAccept 2#8) .succeeded []).result.statusByte = 0#8 ∧
    (State.result { driving p2Device (.setAccept 2#8) .succeeded [] with result := ⟨255#8, true, true, 0#8⟩ }).statusByte ≠ 0#8 ∧
    (driving p2Device (.setAccept 2#8) (.failed .cfg) []).driver.job = .setAccept 2#8 ∧
    (driving p2Device (.setAccept 2#8) (.failed .cfg) []).driver.exch = .failed .cfg := by decide +kernel
theorem witness_SetAcceptCoinsWithoutCapabilitySendsNothing :
    (driving ⟨2#8, 0#16, 0#16, false, false⟩ .idle .none [.setAcceptCoins 2#8 true]).driver.job = .idle ∧
    (driving ⟨2#8, 0#16, 0#16, false, false⟩ .idle .none [.setAcceptCoins 2#8 true]).driver.exch.inProgress = false ∧
    (driving ⟨2#8, 0#16, 0#16, false, false⟩ .idle .none [.setAcceptCoins 2#8 true]).driver.calls = .setAcceptCoins 2#8 true :: [] ∧
    findDevice (driving ⟨2#8, 0#16, 0#16, false, false⟩ .idle .none [.setAcceptCoins 2#8 true]).driver.devices 2#8 =
      some ⟨2#8, 0#16, 0#16, false, false⟩ := by decide +kernel
theorem witness_SetCoinMaskIsLocal :
    (driving p2Device .idle .none [.setCoinMask 2#8 5#16]).driver.job = .idle ∧ (driving p2Device .idle .none [.setCoinMask 2#8 5#16]).driver.exch.inProgress = false ∧
    (driving p2Device .idle .none [.setCoinMask 2#8 5#16]).driver.calls = .setCoinMask 2#8 5#16 :: [] ∧
    findDevice (driving p2Device .idle .none [.setCoinMask 2#8 5#16]).driver.devices 2#8 = some p2Device := by decide +kernel
theorem witness_QueryCreditsParsesTheReply :
    ((driving p2Device .idle .none [.queryCredits 2#8]).driver.job = .idle ∧ (driving p2Device .idle .none [.queryCredits 2#8]).driver.exch.inProgress = false ∧
      (driving p2Device .idle .none [.queryCredits 2#8]).driver.calls = .queryCredits 2#8 :: [] ∧
      findDevice (driving p2Device .idle .none [.queryCredits 2#8]).driver.devices 2#8 = some p2Device ∧
      (driving p2Device .idle .none [.queryCredits 2#8]).busy = false ∧ (driving p2Device .idle .none [.queryCredits 2#8]).timeoutMs ≠ 0#32) ∧
    (driving p2Device (.credits 2#8) .succeeded []).driver.job = .credits 2#8 ∧ (driving p2Device (.credits 2#8) .succeeded []).driver.exch = .succeeded ∧
    (driving p2Device (.credits 2#8) (.failed .length) []).driver.job = .credits 2#8 ∧
    (driving p2Device (.credits 2#8) (.failed .length) []).driver.exch = .failed .length := by decide +kernel
theorem witness_SequenceCounterSkipsZero : (254#8 : Byte).toNat < 255 ∧ (0#8 : Byte).toNat < 255 := by decide

end Sys2Proof.Tests
end

section
/-!
PROOFS. From a decoded word to `exec`: a write to CMD, a request, and a table word each run what their decoder reads (R66, R67, R120).
-/

namespace Sys2Proof.Machine

/-- R120. -/
theorem hostCommand_of_decodeCmd {v : Word} {i : Instr} (h : decodeCmd v = .ok i) (s : State) : hostCommand v s = exec i s := by
  simp [hostCommand, h]

/-- R67. -/
theorem issueRequest_of_decodeRequest {v : Word} {i : Instr} (h : decodeRequest v = .ok i) (s : State) : issueRequest v s = exec i s := by
  simp [issueRequest, h]

theorem handle_command {v : Word} {i : Instr} (h : decodeCmd v = .ok i) (s : State) :
    handle (.host (.write .word 0x01C v)) s = exec i s :=
  (hostAccess_command v s).trans (hostCommand_of_decodeCmd h s)

theorem handle_request {v : Word} {i : Instr} (h : decodeRequest v = .ok i) (s : State) : handle (.request v) s = exec i s :=
  issueRequest_of_decodeRequest h s

/-- The table's decoder and the event that stands for the word choose the format alike (assumption 5). -/
theorem handle_fetchEvent {w : Word} {i : Instr} (h : decodeWord w = .ok i) (s : State) : handle (fetchEvent w) s = exec i s := by
  by_cases hr : isRequestWord w = true
  · have hd : decodeRequest w = .ok i := by simpa [decodeWord, hr] using h
    simpa [fetchEvent, hr] using handle_request hd s
  · have hd : decodeCmd w = .ok i := by simpa [decodeWord, hr] using h
    simpa [fetchEvent, hr] using handle_command hd s

theorem decodeTableWord_eq_some {nbits w : Nat} {i : Instr} :
    decodeTableWord nbits w = some i ↔ decodeWord (tableWord nbits w) = .ok i := by
  cases h : decodeWord (tableWord nbits w) <;> simp [decodeTableWord, h]

/-- The fetched word's event stands at the head of the agenda, and its turn gives back the agenda of `s` (assumption 3). -/
theorem step_withFetchWord (s : State) (nbits w : Nat) :
    step (s.withFetchWord nbits w) = handle (fetchEvent (tableWord nbits w)) s :=
  step_cons (s.withFetchWord nbits w) (fetchEvent (tableWord nbits w)) s.agenda rfl

/-- Settles O5: each way of fetching the instruction leaves one event, and that event's handler runs what its decoder reads. -/
theorem stepRunsTheDecodedInstruction : Obligations.StepRunsTheDecodedInstruction := by
  intro s rest i
  refine ⟨fun v ha hd => ?command, fun h ha hd => ?request, fun nbits w hd => ?tableWord⟩
  case command => exact (step_cons s _ rest ha).trans (handle_command hd _)
  case request => exact (step_cons s _ rest ha).trans (handle_request hd _)
  case tableWord => exact (step_withFetchWord s nbits w).trans (handle_fetchEvent (decodeTableWord_eq_some.mp hd) s)

end Sys2Proof.Machine
end

section
/-!
PROOFS. The registers' fields at their bit positions, the RX view, the write to STATUS, and the reset state's invariant (R11 to R27).
-/

namespace Sys2Proof.Machine

/-! #### The register map and the widths of fields -/

theorem Reg.ofOffset_txPayload {i : Nat} (h : i < 255) : Reg.ofOffset (0x400 + 4 * i) = .txPayload i := by
  have hdiv : (0x400 + 4 * i - 0x400) / 4 = i := by omega
  simp (disch := omega) only [Reg.ofOffset, if_neg, if_pos, hdiv]

theorem Reg.ofOffset_rxPayload {i : Nat} (h : i < 255) : Reg.ofOffset (0x800 + 4 * i) = .rxPayload i := by
  have hdiv : (0x800 + 4 * i - 0x800) / 4 = i := by omega
  simp (disch := omega) only [Reg.ofOffset, if_neg, if_pos, hdiv]

theorem Reg.ofOffset_dbuf {i : Nat} (h : i < 255) : Reg.ofOffset (0xC00 + 4 * i) = .dbuf i := by
  have hdiv : (0xC00 + 4 * i - 0xC00) / 4 = i := by omega
  simp (disch := omega) only [Reg.ofOffset, if_neg, if_pos, hdiv]

/-- A field above `n` lower bits counts its value times `2 ^ n`. -/
theorem toNat_append_eq_add {m n : Nat} (x : BitVec m) (y : BitVec n) : (x ++ y).toNat = y.toNat + x.toNat * 2 ^ n := by
  rw [BitVec.toNat_append, ← Nat.shiftLeft_add_eq_or_of_lt y.isLt, Nat.shiftLeft_eq, Nat.add_comm]

theorem toNat_wordOfByte (b : Byte) : (wordOfByte b).toNat = b.toNat := by
  have := b.isLt
  simp only [wordOfByte, BitVec.toNat_setWidth]
  omega

/-! #### Each register's word as the sum of its fields -/

theorem Ctrl.toNat_toWord (c : Ctrl) :
    c.toWord.toNat = c.ckMode.bit.toNat + c.echoEn.toNat * 2 + c.irqEn.toNat * 2 ^ 2 := by
  simp only [Ctrl.toWord, toNat_append_eq_add, BitVec.toNat_ofBool, BitVec.toNat_ofNat]
  omega

theorem TxHdr.toNat_toWord (h : TxHdr) : h.toWord.toNat = h.dest.toNat + h.len.toNat * 2 ^ 8 + h.method.toNat * 2 ^ 16 := by
  simp only [TxHdr.toWord, toNat_append_eq_add, BitVec.toNat_ofNat]
  omega

theorem LenChk.toNat_toWord (l : LenChk) : l.toWord.toNat = l.expLen.toNat + l.lenMode.code.toNat * 2 ^ 8 := by
  simp only [LenChk.toWord, toNat_append_eq_add, BitVec.toNat_ofNat]
  omega

theorem State.toNat_statusWord (s : State) :
    s.statusWord.toNat = s.busy.toNat + s.done.toNat * 2 + s.err.code.toNat * 2 ^ 2 + s.rxValid.toNat * 2 ^ 6 +
      s.cmdErr.toNat * 2 ^ 7 + s.phase.code.toNat * 2 ^ 8 + s.errPhase.code.toNat * 2 ^ 12 + s.errCnt.toNat * 2 ^ 16 := by
  simp only [State.statusWord, toNat_append_eq_add, BitVec.toNat_ofBool, BitVec.toNat_ofNat]
  omega

theorem Result.toNat_toWord (r : Result) :
    r.toWord.toNat = r.statusByte.toNat + r.statusValid.toNat * 2 ^ 8 + r.devErr.toNat * 2 ^ 9 + r.copyLen.toNat * 2 ^ 16 := by
  simp only [Result.toWord, toNat_append_eq_add, BitVec.toNat_ofBool, BitVec.toNat_ofNat]
  omega

theorem TxCk.toNat_toWord (c : TxCk) : c.toWord.toNat = c.trail.toNat + c.wire2.toNat * 2 ^ 8 := by
  simp only [TxCk.toWord, toNat_append_eq_add, BitVec.toNat_ofNat]
  omega

/-- Settles O18: each register's word is the sum of its fields. -/
theorem statusAndResultFieldPositions : Obligations.StatusAndResultFieldPositions := by
  refine ⟨fun s => ?_, by decide, by decide⟩
  refine ⟨?ctrl, toNat_wordOfByte _, rfl, toNat_wordOfByte _, s.txHdr.toNat_toWord, ?lenchk, toNat_wordOfByte _,
    s.toNat_statusWord, s.result.toNat_toWord, s.txCk.toNat_toWord, fun i hi => ?buffers⟩
  case ctrl =>
    refine s.ctrl.toNat_toWord.trans ?_
    cases s.ctrl.ckMode <;> rfl
  case lenchk =>
    refine s.lenchk.toNat_toWord.trans ?_
    cases s.lenchk.lenMode <;> rfl
  case buffers =>
    rw [Reg.ofOffset_txPayload hi, Reg.ofOffset_dbuf hi]
    exact ⟨toNat_wordOfByte _, toNat_wordOfByte _⟩

/-! #### The RX view -/

/-- Below the trailing byte, wire byte `4 + i` is payload byte `i`. -/
theorem getD_wireFrame_payload (d n x h t : Byte) (p : List Byte) {i : Nat} (hi : i < p.length) :
    (wireFrame d n x h p t).getD (4 + i) 0#8 = p.getD i 0#8 := by
  rw [Nat.add_comm]
  simp [wireFrame, List.getElem?_append_left hi]

/-- The trailing byte follows the payload. -/
theorem getD_wireFrame_trail (d n x h t : Byte) (p : List Byte) : (wireFrame d n x h p t).getD (4 + p.length) 0#8 = t := by
  rw [Nat.add_comm]
  simp [wireFrame]

section
variable {s : State} {d n x h t : Byte} {p : List Byte} (hv : s.rxValid = true) (hstg : s.rxStg = wireFrame d n x h p t)
include hv hstg

theorem State.toNat_rxHdrWord :
    s.rxHdrWord.toNat = d.toNat + n.toNat * 2 ^ 8 + s.rxSrc.toNat * 2 ^ 16 + h.toNat * 2 ^ 24 := by
  have h0 : s.rxStg.getD 0 0#8 = d := by rw [hstg]; rfl
  have h1 : s.rxStg.getD 1 0#8 = n := by rw [hstg]; rfl
  have h3 : s.rxStg.getD 3 0#8 = h := by rw [hstg]; rfl
  simp only [State.rxHdrWord, hv, if_true, h0, h1, h3, toNat_append_eq_add]
  omega

theorem State.toNat_rxCkWord (hp : p.length = n.toNat) : s.rxCkWord.toNat = t.toNat + x.toNat * 2 ^ 8 := by
  have hlen : s.rxLen.toNat = p.length := by rw [State.rxLen, hstg, hp]; rfl
  have h2 : s.rxStg.getD 2 0#8 = x := by rw [hstg]; rfl
  have ht : s.rxStg.getD (4 + s.rxLen.toNat) 0#8 = t := by rw [hlen, hstg, getD_wireFrame_trail]
  simp only [State.rxCkWord, hv, if_true, h2, ht, toNat_append_eq_add, BitVec.toNat_ofNat]
  omega

theorem State.rxPayloadByte_wireFrame (hp : p.length = n.toNat) (i : Nat) : s.rxPayloadByte i = p.getD i 0#8 := by
  have hlen : s.rxLen.toNat = p.length := by rw [State.rxLen, hstg, hp]; rfl
  rw [State.rxPayloadByte, hv, hlen]
  by_cases hi : i < p.length
  · simpa [hi, hstg] using getD_wireFrame_payload d n x h t p hi
  · simp [hi]

end

/-- Settles O17: the view's words over a whole frame, and the gate at RX_VALID = 0. -/
theorem rxViewShowsTheFrameOrNothing : Obligations.RxViewShowsTheFrameOrNothing := by
  refine ⟨fun s d n x h p t hv hp hstg => ?shown, fun s hv => ?hidden⟩
  case shown =>
    refine ⟨(s.toNat_rxHdrWord hv hstg).trans ?_, s.toNat_rxCkWord hv hstg hp, fun i hi => ?payload⟩
    case payload =>
      rw [Reg.ofOffset_rxPayload hi]
      exact (toNat_wordOfByte _).trans (congrArg BitVec.toNat (s.rxPayloadByte_wireFrame hv hstg hp i))
    cases hm : s.rxModeL <;> simp [State.rxSrc, hm, hstg, wireFrame]
  case hidden =>
    refine ⟨if_neg (by simp [hv]), if_neg (by simp [hv]), fun i hi => ?_⟩
    rw [Reg.ofOffset_rxPayload hi]
    simp [Reg.read, State.rxPayloadByte, hv, wordOfByte]

/-! #### The write to STATUS and the reset state -/

/-- Settles O14: STATUS is never locked, so the write stores its two write-one-to-clear bits at any time. -/
theorem statusWriteClearsDoneAndCmdErr : Obligations.StatusWriteClearsDoneAndCmdErr := by
  intro s rest v ha
  rw [step_cons s _ rest ha]
  exact (hostAccess_write 0x020 v _ (by decide) (by decide) (by decide)).trans
    (congrArg Host.Outcome.next (Reg.write_unlocked _ v _ (by decide)))

/-- Settles O46: every part of the invariant is decidable, and the reset state is a closed term. -/
theorem resetMeetsTheInvariant : Obligations.ResetMeetsTheInvariant where
  sequencer := by decide
  operation := by decide
  staging := by decide
  view := by decide
  report := by decide
  buffers := by decide
  devices := rfl
  exchange := by decide

end Sys2Proof.Machine
end

section
/-!
PROOFS. The hidden state of R28 is unobservable (R32): each operation takes two states related by `SameButHidden` to two related states.
An operation that touches no hidden field keeps the relation field by field; the engine's procedures read a hidden field only in the phases in which
the relation fixes it.
-/

namespace Sys2Proof.Machine

/-- A received byte joins the echo in ECHO, the frame in the receive phases, and nothing elsewhere (R28 c, d). -/
theorem State.stage_eq (b : Byte) (s : State) :
    s.stage b = { s with
      echoStg := if s.phase = .echo then s.echoStg ++ [b] else s.echoStg
      rxStg := if s.phase.ofRecv then s.rxStg ++ [b] else s.rxStg } := by
  cases s with | mk => simp only [State.stage]; split <;> rfl

theorem Phase.ne_idle_of_ofSend {p : Phase} (h : p.ofSend = true) : p ≠ .idle := by rintro rfl; cases h

theorem Phase.ne_idle_of_ofRecv {p : Phase} (h : p.ofRecv = true) : p ≠ .idle := by rintro rfl; cases h

/-- No phase belongs both to SEND and to a receive command (R27). -/
theorem Phase.not_ofRecv_of_ofSend {p : Phase} (h : p.ofSend = true) : p.ofRecv ≠ true := by
  cases p <;> simp [Phase.ofSend, Phase.ofRecv] at h ⊢

/-- The write phases are SEND's (R44). -/
theorem Phase.ofSend_of_isWrite {p : Phase} (h : p.isWrite = true) : p.ofSend = true := by
  cases p <;> simp [Phase.isWrite, Phase.ofSend] at h ⊢

namespace SameButHidden

variable {s t : State}

/-! #### What related states show alike -/

theorem toMove_eq (h : SameButHidden s t) : s.toMove = t.toMove := by
  rw [State.toMove, State.toMove, ← h.phase]
  cases hp : s.phase
  case rxPayload =>
    have hstg : s.rxStg = t.rxStg := (h.rx (.inl (by rw [hp]; rfl))).1
    simp [State.toMoveIn, State.rxLen, hstg]
  all_goals simp [State.toMoveIn, h.txHdr]

theorem txValid_eq (h : SameButHidden s t) : s.txValid = t.txValid := by
  simp [State.txValid, h.phase, h.idx, h.toMove_eq]

theorem rxReady_eq (h : SameButHidden s t) : s.rxReady = t.rxReady := by
  simp [State.rxReady, h.phase, h.idx, h.toMove_eq]

/-- A write phase is one of SEND's, where WIRE is the same. -/
theorem txData_eq (h : SameButHidden s t) (hv : s.txValid = true) : s.txData = t.txData := by
  have hw : s.phase.ofSend = true := Phase.ofSend_of_isWrite (Bool.and_eq_true_iff.mp hv).1
  simp [State.txData, State.wireBase, h.wire hw, h.phase, h.idx, h.txHdr]

theorem statusWord_eq (h : SameButHidden s t) : s.statusWord = t.statusWord := by
  simp [State.statusWord, h.busy, h.done, h.err, h.rxValid, h.cmdErr, h.errPhase, h.errCnt, h.phase]

theorem rxPayloadByte_eq (h : SameButHidden s t) : s.rxPayloadByte = t.rxPayloadByte := by
  funext i
  rw [State.rxPayloadByte, State.rxPayloadByte, ← h.rxValid]
  cases hv : s.rxValid with
  | false => rfl
  | true => simp [State.rxLen, (h.rx (.inr hv)).1]

theorem rxHdrWord_eq (h : SameButHidden s t) : s.rxHdrWord = t.rxHdrWord := by
  rw [State.rxHdrWord, State.rxHdrWord, ← h.rxValid]
  cases hv : s.rxValid with
  | false => rfl
  | true =>
    obtain ⟨hstg, hmode, hexp⟩ := h.rx (.inr hv)
    simp [State.rxSrc, hstg, hmode, hexp]

theorem rxCkWord_eq (h : SameButHidden s t) : s.rxCkWord = t.rxCkWord := by
  rw [State.rxCkWord, State.rxCkWord, ← h.rxValid]
  cases hv : s.rxValid with
  | false => rfl
  | true => simp [State.rxLen, (h.rx (.inr hv)).1]

theorem read_eq (h : SameButHidden s t) (r : Reg) : r.read s = r.read t := by
  cases r with
  | ctrl => exact congrArg Ctrl.toWord h.ctrl
  | ownAddr => exact congrArg wordOfByte h.ownAddr
  | timeoutMs => exact h.timeoutMs
  | rxSrcExpect => exact congrArg wordOfByte h.rxSrcExpect
  | txHdr => exact congrArg TxHdr.toWord h.txHdr
  | lenchk => exact congrArg LenChk.toWord h.lenchk
  | dbufLen => exact congrArg wordOfByte h.dbufLen
  | status => exact h.statusWord_eq
  | rxHdr => exact h.rxHdrWord_eq
  | rxCk => exact h.rxCkWord_eq
  | result => exact congrArg Result.toWord h.result
  | txCk => exact congrArg TxCk.toWord h.txCk
  | txPayload i => exact congrArg (fun m => wordOfByte (Memory.read m (txPayloadBase + 4 * i))) h.mem
  | rxPayload i => exact congrArg (fun f => wordOfByte (f i)) h.rxPayloadByte_eq
  | dbuf i => exact congrArg (fun m => wordOfByte (Memory.read m (dbufBase + 4 * i))) h.mem
  | cmd | unmapped => rfl

/-- Related states take the same branch of a test on what they show alike. -/
theorem ite {p q : Prop} [Decidable p] [Decidable q] {a b c d : State} (hpq : p = q) (ha : p → SameButHidden a c)
    (hb : ¬p → SameButHidden b d) : SameButHidden (if p then a else b) (if q then c else d) := by
  subst hpq
  by_cases hp : p
  · simpa [hp] using ha hp
  · simpa [hp] using hb hp

/-! #### Updates that touch no hidden field -/

theorem setCmdErr (h : SameButHidden s t) : SameButHidden s.setCmdErr t.setCmdErr :=
  { h with cmdErr := rfl }

theorem setDriver (h : SameButHidden s t) {d e : Driver} (hd : d = e) :
    SameButHidden { s with driver := d } { t with driver := e } :=
  { h with driver := hd }

theorem setExchange (h : SameButHidden s t) (x : Exchange) : SameButHidden (setExchange x s) (setExchange x t) :=
  h.setDriver (by rw [h.driver])

theorem setJob (h : SameButHidden s t) (j : Job) : SameButHidden (setJob j s) (setJob j t) :=
  h.setDriver (by rw [h.driver])

theorem finishCall (h : SameButHidden s t) (r : CallResult) : SameButHidden (finishCall r s) (finishCall r t) :=
  h.setDriver (by rw [h.driver])

theorem noteSending (h : SameButHidden s t) (o : Option Op) : SameButHidden (noteSending o s) (noteSending o t) := by
  rw [noteSending_eq, noteSending_eq]
  exact h.setDriver (by rw [h.driver])

theorem store (h : SameButHidden s t) (r : Reg) (v : Word) : SameButHidden (r.store v s) (r.store v t) := by
  cases r with
  | ctrl => exact { h with ctrl := rfl }
  | ownAddr => exact { h with ownAddr := rfl }
  | timeoutMs => exact { h with timeoutMs := rfl }
  | rxSrcExpect => exact { h with rxSrcExpect := rfl }
  | txHdr => exact { h with txHdr := rfl }
  | lenchk => exact { h with lenchk := rfl }
  | dbufLen => exact { h with dbufLen := rfl }
  | status =>
    exact { h with
      done := congrArg (· && !v.getLsbD 1) h.done
      cmdErr := congrArg (· && !v.getLsbD 7) h.cmdErr }
  | txPayload i => exact { h with mem := congrArg (Memory.write · _ _) h.mem }
  | cmd | rxHdr | rxCk | result | txCk | rxPayload _ | dbuf _ | unmapped => exact h

theorem write (h : SameButHidden s t) (r : Reg) (v : Word) : SameButHidden (r.write v s) (r.write v t) :=
  ite (by rw [h.busy]) (fun _ => h.setCmdErr) fun _ => h.store r v

/-! #### The sequencer -/

/-- Completion leaves the phase, so of the hidden state only a frame still shown is asked for. -/
theorem complete (h : SameButHidden s t) (e : ErrCode) (ph : Phase) {c c' : BitVec 9} (hc : c = c') :
    SameButHidden (s.complete e ph c) (t.complete e ph c') :=
  { h with
    err := rfl, errPhase := rfl, errCnt := hc, phase := rfl, idx := rfl, elapsed := rfl, busy := rfl, done := rfl
    op := fun hp => absurd rfl hp
    wire := nofun
    echoStg := nofun
    rx := fun hrx => h.rx (.inr (hrx.resolve_left nofun)) }

/-- Acceptance writes OP and leaves the phase and its staging. -/
theorem accept (h : SameButHidden s t) (o : Op) : SameButHidden (s.accept o) (t.accept o) :=
  { h with
    busy := rfl, done := rfl, err := rfl, errPhase := rfl, errCnt := rfl
    rxValid := by simp [h.rxValid]
    result := by simp [h.result]
    op := fun _ => rfl
    rx := fun hrx => h.rx (hrx.imp_right fun hv => by simp_all) }

/-- Admission: a command's own procedure starts from related states that hold the same OP. -/
theorem admitCommand (h : SameButHidden s t) {o : Op} {run : State → State}
    (hrun : SameButHidden (s.accept o) (t.accept o) → SameButHidden (run (s.accept o)) (run (t.accept o))) :
    SameButHidden (admitCommand o run s) (admitCommand o run t) :=
  ite (by rw [h.busy]) (fun _ => h.setCmdErr) fun _ => hrun (h.accept o)

/-- A phase begins with related states when the hidden state it goes on from is the same. -/
theorem beginPhase (h : SameButHidden s t) {p : Phase} (hop : s.op = t.op) (hwire : p.ofSend = true → s.wire = t.wire)
    (hrx : p.ofRecv = true → (p ≠ .rxHdr → s.rxStg = t.rxStg) ∧ s.rxModeL = t.rxModeL ∧ s.rxExpL = t.rxExpL) :
    SameButHidden (s.beginPhase p) (t.beginPhase p) :=
  { h with
    phase := rfl, idx := rfl, elapsed := rfl
    op := fun _ => hop
    wire := hwire
    echoStg := fun hp => by simp [show p = .echo from hp]
    rx := by
      intro hv
      by_cases hp : p.ofRecv = true
      · obtain ⟨hstg, hlatches⟩ := hrx hp
        refine ⟨?_, hlatches⟩
        by_cases hh : p = .rxHdr
        · simp [hh]
        · simpa [hh] using hstg hh
      · obtain ⟨hstg, hlatches⟩ := h.rx (.inr (hv.resolve_left hp))
        exact ⟨by simp [hstg], hlatches⟩ }

/-- Opening a phase keeps the relation when beginning it does, and what follows an empty phase does. -/
theorem openPhase {p : Phase} {next : State → State} (h : SameButHidden (s.beginPhase p) (t.beginPhase p))
    (hnext : SameButHidden (s.beginPhase p) (t.beginPhase p) → SameButHidden (next (s.beginPhase p)) (next (t.beginPhase p))) :
    SameButHidden (s.openPhase p next) (t.openPhase p next) :=
  ite (by rw [h.toMove_eq]) (fun _ => hnext h) fun _ =>
    ite (by rw [h.timeoutMs]) (fun _ => h.complete _ _ rfl) fun _ => h

/-- Within SEND a next phase begins with the same OP and WIRE. -/
theorem beginPhase_ofSend (h : SameButHidden s t) (hs : s.phase.ofSend = true) {p : Phase} (hp : p.ofSend = true) :
    SameButHidden (s.beginPhase p) (t.beginPhase p) :=
  h.beginPhase (h.op (Phase.ne_idle_of_ofSend hs)) (fun _ => h.wire hs) fun hr => absurd hr (Phase.not_ofRecv_of_ofSend hp)

/-- Within a receive a next phase begins with the same OP, RX_STG and latches. -/
theorem beginPhase_ofRecv (h : SameButHidden s t) (hs : s.phase.ofRecv = true) {p : Phase} (hp : p.ofRecv = true) :
    SameButHidden (s.beginPhase p) (t.beginPhase p) :=
  h.beginPhase (h.op (Phase.ne_idle_of_ofRecv hs)) (fun hw => absurd hp (Phase.not_ofRecv_of_ofSend hw))
    fun _ => (h.rx (.inl hs)).imp_left fun hstg _ => hstg

/-! #### SEND -/

theorem buildWire_eq (h : SameButHidden s t) : s.buildWire = t.buildWire := by
  simp [State.buildWire, State.txFrame, State.txPayload, h.txHdr, h.ownAddr, h.mem, h.ctrl, h.params]

theorem latchWire (h : SameButHidden s t) : SameButHidden s.latchWire t.latchWire :=
  { h with
    wire := fun _ => h.buildWire_eq
    txCk := by simp [h.buildWire_eq, h.txHdr] }

theorem afterEcho (h : SameButHidden s t) (hp : s.phase = .echo) : SameButHidden (afterEcho s) (afterEcho t) :=
  ite (by rw [h.echoStg hp, h.wire (by rw [hp]; rfl)]) (fun _ => h.complete _ _ rfl) fun _ => h.complete _ _ (by rw [h.txHdr])

theorem afterTxCk (h : SameButHidden s t) (hs : s.phase.ofSend = true) : SameButHidden (afterTxCk s) (afterTxCk t) :=
  ite (by rw [h.ctrl]) (fun _ => openPhase (h.beginPhase_ofSend hs rfl) fun h' => h'.afterEcho rfl) fun _ => h.complete _ _ rfl

theorem afterTxPayload (h : SameButHidden s t) (hs : s.phase.ofSend = true) : SameButHidden (afterTxPayload s) (afterTxPayload t) :=
  openPhase (h.beginPhase_ofSend hs rfl) fun h' => h'.afterTxCk rfl

theorem afterTxHdr (h : SameButHidden s t) (hs : s.phase.ofSend = true) : SameButHidden (afterTxHdr s) (afterTxHdr t) :=
  openPhase (h.beginPhase_ofSend hs rfl) fun h' => h'.afterTxPayload rfl

theorem issueSend (h : SameButHidden s t) : SameButHidden (issueSend s) (issueSend t) :=
  h.admitCommand fun ha =>
    openPhase (ha.latchWire.beginPhase rfl (fun _ => ha.buildWire_eq) nofun) fun h' => h'.afterTxHdr rfl

/-! #### The receive commands -/

theorem deliverStatus (h : SameButHidden s t) (hstg : s.rxStg = t.rxStg) : SameButHidden (deliverStatus s) (deliverStatus t) :=
  { h with result := by simp [Machine.deliverStatus, hstg, h.result] }

theorem copyToDbuf (h : SameButHidden s t) (hstg : s.rxStg = t.rxStg) : SameButHidden (copyToDbuf s) (copyToDbuf t) :=
  { h with
    mem := by simp [Machine.copyToDbuf, State.rxPayload, State.rxLen, hstg, h.mem, h.dbufLen]
    result := by simp [Machine.copyToDbuf, State.rxLen, hstg, h.result, h.dbufLen] }

theorem deliver (h : SameButHidden s t) (hop : s.op = t.op) (hstg : s.rxStg = t.rxStg) : SameButHidden (deliver s) (deliver t) := by
  rw [Machine.deliver, Machine.deliver, ← hop]
  cases s.op with
  | recvStatus => exact h.deliverStatus hstg
  | recvData => exact (h.deliverStatus hstg).copyToDbuf hstg
  | nop | send | recv => exact h

theorem finishReceive (h : SameButHidden s t) (hs : s.phase.ofRecv = true) : SameButHidden (finishReceive s) (finishReceive t) := by
  obtain ⟨hstg, hmode, hexp⟩ := h.rx (.inl hs)
  have hop : s.op = t.op := h.op (Phase.ne_idle_of_ofRecv hs)
  have hshown : SameButHidden { s with rxValid := true } { t with rxValid := true } :=
    { h with rxValid := rfl, rx := fun _ => h.rx (.inl hs) }
  exact ite (by rw [hmode, h.params, hexp, hstg])
    (fun _ => ite (by simp only [State.rxLen, h.lenchk, hstg]) (fun _ => (hshown.deliver hop hstg).complete _ _ rfl)
      fun _ => hshown.complete _ _ rfl)
    fun _ => h.complete _ _ rfl

theorem afterRxPayload (h : SameButHidden s t) (hs : s.phase.ofRecv = true) : SameButHidden (afterRxPayload s) (afterRxPayload t) :=
  openPhase (h.beginPhase_ofRecv hs rfl) fun h' => h'.finishReceive rfl

theorem afterRxHdr (h : SameButHidden s t) (hs : s.phase.ofRecv = true) : SameButHidden (afterRxHdr s) (afterRxHdr t) :=
  openPhase (h.beginPhase_ofRecv hs rfl) fun h' => h'.afterRxPayload rfl

theorem latchMode (h : SameButHidden s t) : SameButHidden s.latchMode t.latchMode :=
  { h with rx := fun hrx => ⟨(h.rx hrx).1, congrArg Ctrl.ckMode h.ctrl, h.rxSrcExpect⟩ }

theorem issueRecv (h : SameButHidden s t) (o : Op) : SameButHidden (issueRecv o s) (issueRecv o t) :=
  h.admitCommand fun ha =>
    ite (by rw [ha.latchMode.lenchk]) (fun _ => ha.latchMode.complete _ _ rfl) fun _ =>
      openPhase
        (ha.latchMode.beginPhase rfl nofun fun _ => ⟨fun hne => absurd rfl hne, congrArg Ctrl.ckMode h.ctrl, h.rxSrcExpect⟩)
        fun h' => h'.afterRxHdr rfl

/-! #### The line and the timebase -/

theorem phaseDone (h : SameButHidden s t) : SameButHidden (phaseDone s) (phaseDone t) := by
  rw [Machine.phaseDone, Machine.phaseDone, ← h.phase]
  cases hp : s.phase with
  | idle => exact h
  | txHdr => exact h.afterTxHdr (by rw [hp]; rfl)
  | txPayload => exact h.afterTxPayload (by rw [hp]; rfl)
  | txCk => exact h.afterTxCk (by rw [hp]; rfl)
  | echo => exact h.afterEcho hp
  | rxHdr => exact h.afterRxHdr (by rw [hp]; rfl)
  | rxPayload => exact h.afterRxPayload (by rw [hp]; rfl)
  | rxCk => exact h.finishReceive (by rw [hp]; rfl)

theorem advance (h : SameButHidden s t) : SameButHidden (advance s) (advance t) := by
  have hn : SameButHidden { s with idx := s.idx + 1#9 } { t with idx := t.idx + 1#9 } := { h with idx := by rw [h.idx] }
  exact ite (by rw [hn.toMove_eq, hn.idx]) (fun _ => hn.phaseDone) fun _ => hn

theorem txAccept (h : SameButHidden s t) : SameButHidden (txAccept s) (txAccept t) :=
  ite (by rw [h.txValid_eq]) (fun hv => advance { h with txLine := by rw [h.txLine, h.txData_eq hv] }) fun _ => h

theorem stage (h : SameButHidden s t) (b : Byte) : SameButHidden (s.stage b) (t.stage b) := by
  rw [State.stage_eq, State.stage_eq]
  exact { h with
    echoStg := fun hp => by rw [h.phase, h.echoStg hp]
    rx := fun hrx => (h.rx hrx).imp_left fun hstg => by rw [h.phase, hstg] }

theorem setRxFifo (h : SameButHidden s t) {f g : List Byte} (hf : f = g) : SameButHidden { s with rxFifo := f } { t with rxFifo := g } :=
  { h with rxFifo := hf }

theorem rxByte (h : SameButHidden s t) : SameButHidden (rxByte s) (rxByte t) := by
  rw [Machine.rxByte, Machine.rxByte, ← h.rxFifo]
  cases s.rxFifo with
  | nil => exact h
  | cons b rest => exact ite (by rw [h.rxReady_eq]) (fun _ => ((h.setRxFifo rfl).stage b).advance) fun _ => h

theorem tick (h : SameButHidden s t) : SameButHidden (tick s) (tick t) := by
  have hn : SameButHidden { s with elapsed := s.elapsed + 1#32 } { t with elapsed := t.elapsed + 1#32 } :=
    { h with elapsed := by rw [h.elapsed] }
  refine ite (by rw [h.phase]) (fun _ => h) fun _ => ite (by rw [hn.elapsed, hn.timeoutMs]) (fun _ => ?_) fun _ => hn
  exact h.phase ▸ hn.complete _ _ h.idx

theorem resetEvent (h : SameButHidden s t) : SameButHidden (resetEvent s) (resetEvent t) := by
  rw [Machine.resetEvent, Machine.resetEvent, h.rxFifo, h.txLine, h.rdata, h.agenda, h.params]
  constructor <;> intros <;> trivial

/-! #### The host's software -/

theorem writeTxHdr (h : SameButHidden s t) (dest len method : Byte) :
    SameButHidden (writeTxHdr dest len method s) (writeTxHdr dest len method t) :=
  h.write .txHdr _

theorem request (h : SameButHidden s t) (dest len method : Byte) (plan : ReplyPlan) :
    SameButHidden (request dest len method plan s) (request dest len method plan t) :=
  (((h.writeTxHdr dest len method).write .rxSrcExpect _).write .lenchk _).issueSend.noteSending _

theorem writePayload (h : SameButHidden s t) (i : Nat) (p : List Byte) :
    SameButHidden (writePayload i p s) (writePayload i p t) := by
  induction p generalizing i s t with
  | nil => exact h
  | cons b bs ih => exact ih (h.write (.txPayload i) _) (i + 1)

theorem startExchange (h : SameButHidden s t) (dest method : Byte) (p : List Byte) (plan : ReplyPlan) :
    SameButHidden (startExchange dest method p plan s) (startExchange dest method p plan t) :=
  (h.writePayload 0 p).request _ _ _ _

theorem startProbe (h : SameButHidden s t) (a : Byte) (v : BitVec 16) (bs : List Bool) :
    SameButHidden (startProbe a v bs s) (startProbe a v bs t) :=
  (h.setJob _).startExchange _ _ _ _

theorem probeDone (h : SameButHidden s t) (a : Byte) (v : BitVec 16) (bs : List Bool) (ok : Bool) :
    SameButHidden (probeDone a v bs ok s) (probeDone a v bs ok t) :=
  ite rfl (fun _ => h.startProbe _ _ _) fun _ => (h.setDriver (by rw [h.driver])).finishCall _

theorem startSetAccept (h : SameButHidden s t) (d : Device) (on : Bool) :
    SameButHidden (startSetAccept d on s) (startSetAccept d on t) :=
  ite rfl (fun _ => (h.setJob _).startExchange _ _ _ _) fun _ =>
    ite rfl (fun _ => (h.setJob _).startExchange _ _ _ _) fun _ => h.finishCall _

theorem startCall (h : SameButHidden s t) (c : Call) : SameButHidden (startCall c s) (startCall c t) := by
  cases c with
  | scan a => exact (h.setJob _).startExchange _ _ _ _
  | setAcceptCoins a on =>
    simp only [Machine.startCall, ← h.driver]
    cases findDevice s.driver.devices a with
    | none => exact h.finishCall _
    | some d => exact h.startSetAccept d on
  | setCoinMask a m =>
    simp only [Machine.startCall, ← h.driver]
    cases findDevice s.driver.devices a with
    | none => exact h.finishCall _
    | some d => exact (h.setDriver rfl).finishCall _
  | queryCredits a =>
    simp only [Machine.startCall, ← h.driver]
    cases findDevice s.driver.devices a with
    | none => exact h.finishCall _
    | some d => exact (h.setJob _).startExchange _ _ _ _

theorem jobTurn (h : SameButHidden s t) : SameButHidden (jobTurn s) (jobTurn t) := by
  unfold Machine.jobTurn
  rw [← h.driver]
  cases s.driver.job with
  | idle =>
    cases s.driver.calls with
    | nil => exact h
    | cons c cs => exact (h.setDriver rfl).startCall c
  | scanVersion a =>
    cases s.driver.exch with
    | succeeded => exact h.rxPayloadByte_eq ▸ h.startProbe _ _ _
    | failed e => exact h.finishCall _
    | none | sending _ | receiving => exact h
  | scanProbe a v bs =>
    cases s.driver.exch with
    | succeeded => exact h.result ▸ h.probeDone _ _ _ _
    | failed e => exact h.probeDone _ _ _ _
    | none | sending _ | receiving => exact h
  | setAccept a =>
    cases s.driver.exch with
    | succeeded => exact ite (by rw [h.result]) (fun _ => h.finishCall _) fun _ => h.finishCall _
    | failed e => exact h.finishCall _
    | none | sending _ | receiving => exact h
  | credits a =>
    cases s.driver.exch with
    | succeeded => exact h.rxPayloadByte_eq ▸ h.finishCall _
    | failed e => exact h.finishCall _
    | none | sending _ | receiving => exact h

theorem softwareTurn (h : SameButHidden s t) : SameButHidden (softwareTurn s) (softwareTurn t) := by
  unfold Machine.softwareTurn
  rw [← h.driver, ← h.err]
  cases s.driver.exch with
  | sending next =>
    refine ite (by rw [h.done]) (fun _ => ite rfl (fun _ => ?_) fun _ => h.setExchange _) fun _ => h
    cases next with
    | some o => exact (h.setExchange _).issueRecv o
    | none => exact h.setExchange _
  | receiving => exact ite (by rw [h.done]) (fun _ => ite rfl (fun _ => h.setExchange _) fun _ => h.setExchange _) fun _ => h
  | none | succeeded | failed _ => exact h.jobTurn

end SameButHidden

/-! #### Outcomes -/

/-- Two steps that answer related states, or stop for the same reason. -/
inductive SameOutcome : Host.Outcome State Fault Refusal → Host.Outcome State Fault Refusal → Prop
  | next {s t : State} (h : SameButHidden s t) : SameOutcome (.next s) (.next t)
  | fault (f : Fault) : SameOutcome (.fault f) (.fault f)
  | refused (r : Refusal) : SameOutcome (.refused r) (.refused r)

namespace SameButHidden

variable {s t : State}

theorem exec (h : SameButHidden s t) (i : Instr) : SameOutcome (exec i s) (exec i t) := by
  cases i with
  | nop => exact .next h
  | send => exact .next h.issueSend
  | recv | recvStatus | recvData => exact .next (h.issueRecv _)
  | mReset dest len src => exact .next ((h.writeTxHdr dest len _).issueSend.noteSending _)
  | mCommsRev dest len | mRdMinh dest len | mModMinh dest len | mRdCredit dest len | mRdInh dest len | mModInh dest len =>
    exact .next (h.request dest len _ _)

theorem hostCommand (h : SameButHidden s t) (v : Word) : SameOutcome (hostCommand v s) (hostCommand v t) := by
  unfold Machine.hostCommand
  cases decodeCmd v with
  | ok i => exact h.exec i
  | error _ => exact .next h.setCmdErr

theorem issueRequest (h : SameButHidden s t) (v : Word) : SameOutcome (issueRequest v s) (issueRequest v t) := by
  unfold Machine.issueRequest
  rcases decodeRequest v with (op | m) | i
  · exact .refused _
  · exact .refused _
  · exact h.exec i

theorem hostWrite (h : SameButHidden s t) (off : Nat) (v : Word) : SameOutcome (hostWrite off v s) (hostWrite off v t) := by
  unfold Machine.hostWrite
  split
  · exact h.hostCommand v
  · exact .next (h.write _ v)

theorem hostRead (h : SameButHidden s t) (off : Nat) : SameOutcome (hostRead off s) (hostRead off t) :=
  .next { h with rdata := h.read_eq _ }

/-- Whether an access stops is decided by its width and its offset alone. -/
theorem hostAccess (h : SameButHidden s t) (a : HostAccess) : SameOutcome (hostAccess a s) (hostAccess a t) := by
  cases a <;> unfold Machine.hostAccess <;> dsimp only <;> split
  case write.isTrue | read.isTrue => exact .fault _
  case write.isFalse size off v _ =>
    split
    · exact h.hostWrite off v
    · exact .refused _
  case read.isFalse size off _ =>
    split
    · exact h.hostRead off
    · exact .refused _

theorem cycleTransfer (h : SameButHidden s t) (c : Cycle) : SameButHidden (cycleTransfer c s) (cycleTransfer c t) :=
  ite (by rw [h.txValid_eq]) (fun _ => h.txAccept) fun _ => ite (by rw [h.rxReady_eq]) (fun _ => h.rxByte) fun _ => h

theorem cycleEvent (h : SameButHidden s t) (c : Cycle) : SameOutcome (cycleEvent c s) (cycleEvent c t) := by
  have hn := ite (p := c.tick = true) rfl (fun _ => (h.cycleTransfer c).tick) fun _ => h.cycleTransfer c
  simp only [Machine.cycleEvent, ← h.busy, ← hn.busy]
  split
  · exact .next h.resetEvent
  · cases c.host with
    | none => exact .next hn
    | some a => exact hn.hostAccess _

theorem handle (h : SameButHidden s t) (e : Event) : SameOutcome (handle e s) (handle e t) := by
  cases e with
  | host a => exact h.hostAccess a
  | request v => exact h.issueRequest v
  | call c => exact .next (h.setDriver (by rw [h.driver]))
  | software => exact .next h.softwareTurn
  | txAccept => exact .next h.txAccept
  | rxByte => exact .next h.rxByte
  | tick => exact .next h.tick
  | reset => exact .next h.resetEvent
  | arrive b => exact .next (h.setRxFifo (by rw [h.rxFifo]))
  | lose n => exact .next (h.setRxFifo (by rw [h.rxFifo]))
  | cycle c => exact h.cycleEvent c

theorem step (h : SameButHidden s t) : SameOutcome (step s) (step t) := by
  cases ha : s.agenda with
  | nil => rw [step_nil s ha, step_nil t (h.agenda ▸ ha)]; exact .next h
  | cons e rest =>
    have hturn : SameButHidden { s with agenda := rest } { t with agenda := rest } := { h with agenda := rfl }
    rw [step_cons s e rest ha, step_cons t e rest (h.agenda ▸ ha)]
    exact hturn.handle e

end SameButHidden

/-- Settles O50: every operation keeps the relation, so a step does, and it stops alike. -/
theorem hiddenStateIsUnobservable : Obligations.HiddenStateIsUnobservable := by
  intro s t h
  refine ⟨h.read_eq, ?irq, h.txValid_eq, h.rxReady_eq, h.txData_eq, ?next, ?fault, ?refused⟩
  case irq => rw [State.irq, State.irq, h.done, h.ctrl]
  all_goals
    generalize hu : step t = u
    intro _ hs
    have hstep := hu ▸ hs ▸ h.step
  case next => cases hstep with | next h' => exact ⟨_, rfl, h'⟩
  case fault => cases hstep; rfl
  case refused => cases hstep; rfl

end Sys2Proof.Machine
end

section
/-!
PROOFS. What the engine never writes (R18, R19, R21): each procedure an event of the line or the timebase can run leaves the operand registers, TX_PAYLOAD,
CMD_ERR and the software's state as they were.
-/

namespace Sys2Proof.Machine

/-- What no event of the line or the timebase writes. -/
structure EngineFrame (s t : State) : Prop extends SameOperands s t where
  cmdErr : t.cmdErr = s.cmdErr
  driver : t.driver = s.driver
  rdata : t.rdata = s.rdata
  params : t.params = s.params
  agenda : t.agenda = s.agenda

namespace EngineFrame

theorem refl (s : State) : EngineFrame s s :=
  ⟨⟨rfl, rfl, rfl, rfl, rfl, rfl, rfl, fun _ _ => rfl⟩, rfl, rfl, rfl, rfl, rfl⟩

variable {u s : State}

theorem complete (h : EngineFrame u s) (e : ErrCode) (ph : Phase) (cnt : BitVec 9) : EngineFrame u (s.complete e ph cnt) := { h with }

theorem beginPhase (h : EngineFrame u s) (p : Phase) : EngineFrame u (s.beginPhase p) := { h with }

theorem openPhase (h : EngineFrame u s) (p : Phase) {next : State → State} (hnext : ∀ v, EngineFrame u v → EngineFrame u (next v)) :
    EngineFrame u (s.openPhase p next) := by
  rcases State.openPhase_cases p next s with ⟨-, heq⟩ | ⟨-, -, heq⟩ | ⟨-, -, heq⟩ <;> rw [heq]
  · exact hnext _ (h.beginPhase p)
  · exact (h.beginPhase p).complete _ _ _
  · exact h.beginPhase p

theorem afterEcho (h : EngineFrame u s) : EngineFrame u (afterEcho s) := by
  unfold Machine.afterEcho
  split <;> exact h.complete _ _ _

theorem afterTxCk (h : EngineFrame u s) : EngineFrame u (afterTxCk s) := by
  unfold Machine.afterTxCk
  split
  · exact h.openPhase .echo fun _ => afterEcho
  · exact h.complete _ _ _

theorem afterTxPayload (h : EngineFrame u s) : EngineFrame u (afterTxPayload s) := h.openPhase .txCk fun _ => afterTxCk

theorem afterTxHdr (h : EngineFrame u s) : EngineFrame u (afterTxHdr s) := h.openPhase .txPayload fun _ => afterTxPayload

theorem deliverStatus (h : EngineFrame u s) : EngineFrame u (deliverStatus s) := { h with }

/-- DBUF lies above TX_PAYLOAD, so the copy reaches none of its elements. -/
theorem copyToDbuf (h : EngineFrame u s) : EngineFrame u (copyToDbuf s) :=
  { h with
    txPayload := by
      intro i hi
      rw [← h.txPayload i hi, State.txByte, Machine.copyToDbuf]
      have hbelow (j : Nat) : txPayloadBase + 4 * i ≠ dbufBase + 4 * j := by simp only [txPayloadBase, dbufBase]; omega
      exact (Memory.read_writeElems_other _ _ _ _ fun j _ => hbelow j).trans
        (Memory.read_writeElems_other _ _ _ _ fun j _ => hbelow j) }

theorem deliver (h : EngineFrame u s) : EngineFrame u (deliver s) := by
  unfold Machine.deliver
  cases s.op with
  | recvStatus => exact h.deliverStatus
  | recvData => exact h.deliverStatus.copyToDbuf
  | nop | send | recv => exact h

theorem finishReceive (h : EngineFrame u s) : EngineFrame u (finishReceive s) := by
  have hshown : EngineFrame u { s with rxValid := true } := { h with }
  rcases finishReceive_cases s with ⟨-, heq⟩ | ⟨-, -, heq⟩ | ⟨-, -, heq⟩ <;> rw [heq]
  · exact h.complete _ _ _
  · exact hshown.complete _ _ _
  · exact hshown.deliver.complete _ _ _

theorem afterRxPayload (h : EngineFrame u s) : EngineFrame u (afterRxPayload s) := h.openPhase .rxCk fun _ => finishReceive

theorem afterRxHdr (h : EngineFrame u s) : EngineFrame u (afterRxHdr s) := h.openPhase .rxPayload fun _ => afterRxPayload

theorem phaseDone (h : EngineFrame u s) : EngineFrame u (phaseDone s) := by
  unfold Machine.phaseDone
  cases s.phase with
  | idle => exact h
  | txHdr => exact h.afterTxHdr
  | txPayload => exact h.afterTxPayload
  | txCk => exact h.afterTxCk
  | echo => exact h.afterEcho
  | rxHdr => exact h.afterRxHdr
  | rxPayload => exact h.afterRxPayload
  | rxCk => exact h.finishReceive

theorem advance (h : EngineFrame u s) : EngineFrame u (advance s) := by
  have hidx : EngineFrame u { s with idx := s.idx + 1#9 } := { h with }
  unfold Machine.advance
  dsimp only
  split
  · exact hidx.phaseDone
  · exact hidx

theorem txAccept (h : EngineFrame u s) : EngineFrame u (txAccept s) := by
  cases hv : s.txValid with
  | false => rw [txAccept_disabled s hv]; exact h
  | true => rw [txAccept_enabled s hv]; exact advance { h with }

theorem setRxFifo (h : EngineFrame u s) (f : List Byte) : EngineFrame u { s with rxFifo := f } := { h with }

theorem stage (h : EngineFrame u s) (b : Byte) : EngineFrame u (s.stage b) := by
  rw [State.stage_eq]
  exact { h with }

theorem rxByte (h : EngineFrame u s) : EngineFrame u (rxByte s) := by
  unfold Machine.rxByte
  split
  · exact h
  · split
    · exact ((h.setRxFifo _).stage _).advance
    · exact h

theorem tick (h : EngineFrame u s) : EngineFrame u (tick s) := by
  by_cases hp : s.phase = .idle
  · rw [tick_idle s hp]; exact h
  · rcases tick_cases s hp with ⟨-, heq⟩ | ⟨-, heq⟩ <;> rw [heq]
    · exact h.complete _ _ _
    · exact { h with }

end EngineFrame

/-- The five events of the line and the timebase always answer a next state, within the frame. -/
theorem handle_lineEvent {e : Event} (he : e.isLineEvent = true) (s : State) : ∃ t, handle e s = .next t ∧ EngineFrame s t := by
  have h := EngineFrame.refl s
  cases e with
  | txAccept => exact ⟨_, rfl, h.txAccept⟩
  | rxByte => exact ⟨_, rfl, h.rxByte⟩
  | tick => exact ⟨_, rfl, h.tick⟩
  | arrive _ | lose _ => exact ⟨_, rfl, h.setRxFifo _⟩
  | host _ | request _ | call _ | software | reset | cycle _ => cases he

/-- Settles O52: the event's handler stays within the engine's frame. -/
theorem engineNeverWritesTheOperands : Obligations.EngineNeverWritesTheOperands := by
  intro s t e rest ha he hs
  rw [step_cons s e rest ha] at hs
  obtain ⟨t', ht, h⟩ := handle_lineEvent he { s with agenda := rest }
  obtain rfl : t' = t := by rw [ht] at hs; injection hs
  exact ⟨{ h.toSameOperands with }, h.cmdErr, h.driver, h.rdata, h.params, h.agenda⟩

end Sys2Proof.Machine
end

section
/-!
PROOFS. The register map read backwards (R10): where the register of an aligned offset stands.
-/

namespace Sys2Proof.Machine

/-- Where a register stands (R10): the offset of its word, within the buffers' 255 elements (R18, R22, R26), or one of the gaps (R43). -/
def Reg.At (off : Nat) : Reg → Prop
  | .ctrl => off = 0x000
  | .ownAddr => off = 0x004
  | .timeoutMs => off = 0x008
  | .rxSrcExpect => off = 0x00C
  | .txHdr => off = 0x010
  | .lenchk => off = 0x014
  | .dbufLen => off = 0x018
  | .cmd => off = 0x01C
  | .status => off = 0x020
  | .rxHdr => off = 0x024
  | .rxCk => off = 0x028
  | .result => off = 0x02C
  | .txCk => off = 0x030
  | .txPayload i => i < 255 ∧ off = txPayloadBase + 4 * i
  | .rxPayload i => i < 255 ∧ off = rxPayloadBase + 4 * i
  | .dbuf i => i < 255 ∧ off = dbufBase + 4 * i
  | .unmapped => (0x034 ≤ off ∧ off ≤ 0x3FF) ∨ off = 0x7FC ∨ off = 0xBFC ∨ 0xFFC ≤ off

theorem Reg.at_ofOffset {off : Nat} (ha : off % 4 = 0) : (Reg.ofOffset off).At off := by
  unfold Reg.ofOffset
  iterate 13 refine iteInduction (motive := Reg.At off) id fun _ => ?_
  iterate 3
    refine iteInduction (motive := Reg.At off) (fun h => ?_) fun _ => ?_
    · simp only [Reg.At, txPayloadBase, rxPayloadBase, dbufBase]
      omega
  simp only [Reg.At]
  omega

/-- No two offsets share a mapped register. -/
theorem Reg.At.unique {off off' : Nat} {r : Reg} (h : r.At off) (h' : r.At off') (hr : r ≠ .unmapped) : off = off' := by
  cases r with
  | txPayload i | rxPayload i | dbuf i => exact h.2.trans h'.2.symm
  | unmapped => exact absurd rfl hr
  | _ => exact h.trans h'.symm

/-- An aligned offset other than CMD's is no command (R66). -/
theorem Reg.ofOffset_ne_cmd {off : Nat} (ha : off % 4 = 0) (hc : off ≠ 0x01C) : Reg.ofOffset off ≠ .cmd :=
  fun he => hc (he ▸ Reg.at_ofOffset ha : Reg.cmd.At off)

/-- The element number of a TX_PAYLOAD register, where it is one, is one of the 255 (R18). -/
def Reg.inRange (r : Reg) : Prop := ∀ i, r = .txPayload i → i < 255

theorem Reg.At.inRange {off : Nat} {r : Reg} (h : r.At off) : r.inRange := by
  rintro i rfl
  exact h.1

theorem Reg.inRange_of_ne {r : Reg} (h : ∀ i, r ≠ .txPayload i) : r.inRange := fun i hi => absurd hi (h i)

/-! #### The accesses, requests and cycles that answer a next state -/

theorem accessDefined_iff {size : AccessSize} {off : Nat} : accessDefined size off = true ↔ size = .word ∧ off % 4 = 0 := by
  simp [accessDefined]

/-- A width or an offset R43 does not define. -/
theorem accessDefined_eq_false {size : AccessSize} {off : Nat} : accessDefined size off = false ↔ size ≠ .word ∨ off % 4 ≠ 0 := by
  rw [← Bool.not_eq_true, accessDefined_iff]
  tauto

/-- The accesses that answer a next state (R42, R43, R120): a read, a command, a write to another register. -/
theorem hostAccess_next {a : HostAccess} {s t : State} (h : hostAccess a s = .next t) :
    (∃ off, a = .read .word off ∧ t = { s with rdata := (Reg.ofOffset off).read s }) ∨
    (∃ v, a = .write .word 0x01C v ∧ hostCommand v s = .next t) ∨
    (∃ off v, a = .write .word off v ∧ off % 4 = 0 ∧ off ≠ 0x01C ∧ t = (Reg.ofOffset off).write v s) := by
  cases a with
  | read size off =>
    simp only [hostAccess, hostRead] at h
    split_ifs at h with hout hdef
    cases h
    obtain ⟨rfl, -⟩ := accessDefined_iff.mp hdef
    exact .inl ⟨off, rfl, rfl⟩
  | write size off v =>
    have hdefined : off < 0x1000 ∧ accessDefined size off = true := by
      simp only [hostAccess] at h
      split_ifs at h with hout hdef
      exact ⟨Nat.lt_of_not_le hout, hdef⟩
    obtain ⟨ho, hdef⟩ := hdefined
    obtain ⟨rfl, ha⟩ := accessDefined_iff.mp hdef
    by_cases hc : off = 0x01C
    · subst hc
      exact .inr (.inl ⟨v, rfl, h⟩)
    · rw [hostAccess_write off v s ho ha (Reg.ofOffset_ne_cmd ha hc)] at h
      cases h
      exact .inr (.inr ⟨off, v, rfl, ha, hc, rfl⟩)

/-- A command runs its instruction, or is reserved (R120, R121 b). -/
theorem hostCommand_next {v : Word} {s t : State} (h : hostCommand v s = .next t) :
    (∃ i, decodeCmd v = .ok i ∧ exec i s = .next t) ∨ t = s.setCmdErr := by
  unfold hostCommand at h
  cases hd : decodeCmd v with
  | ok i => rw [hd] at h; exact .inl ⟨i, rfl, h⟩
  | error e => rw [hd] at h; cases h; exact .inr rfl

/-- A whole cycle (R190) is a Reset, or what its byte and its tick make of the state, with the host's access after them. -/
theorem cycleEvent_next {P : State → Prop} {c : Cycle} {s t : State} (htx : ∀ v, P v → P (txAccept v)) (hrx : ∀ v, P v → P (rxByte v))
    (htick : ∀ v, P v → P (tick v)) (h : P s) (ht : cycleEvent c s = .next t) :
    t = resetEvent s ∨ ∃ u, P u ∧ (t = u ∨ ∃ a, hostAccess a u = .next t) := by
  have hmoved : P (cycleTransfer c s) := by
    unfold cycleTransfer
    split
    · exact htx s h
    · split
      · exact hrx s h
      · exact h
  have hticked : P (if c.tick then tick (cycleTransfer c s) else cycleTransfer c s) := by
    split
    · exact htick _ hmoved
    · exact hmoved
  unfold cycleEvent at ht
  split at ht
  · cases ht; exact .inl rfl
  · cases hh : c.host with
    | none => rw [hh] at ht; cases ht; exact .inr ⟨_, hticked, .inl rfl⟩
    | some a => rw [hh] at ht; exact .inr ⟨_, hticked, .inr ⟨_, ht⟩⟩

/-- A request event that answers a next state runs its instruction (R67). -/
theorem issueRequest_next {w : Word} {s t : State} (h : issueRequest w s = .next t) :
    ∃ i, decodeRequest w = .ok i ∧ exec i s = .next t := by
  unfold issueRequest at h
  rcases hd : decodeRequest w with (op | m) | i <;> rw [hd] at h
  · cases h
  · cases h
  · exact ⟨i, rfl, h⟩

end Sys2Proof.Machine
end

section
/-!
PROOFS. The invariant (R47) taken apart along the sequencer: the engine is idle with a reported outcome, or SEND waits in one of its phases, or a receive
command waits in one of its own. Each operation is then shown to lead from one of the three to one of the three.
-/

namespace Sys2Proof.Machine

/-! #### The parts -/

/-- R22, R24, R102, R18, R26: what the results and the buffers are, wherever the sequencer stands. -/
structure ResultsOk (s : State) : Prop where
  shown : s.rxValid = true →
    s.rxStg.length = 5 + s.rxLen.toNat ∧ frameOk s.rxModeL s.params.crcInit s.rxExpL s.rxStg = true
  hidden : s.rxValid = false → s.result = Result.zero
  devErr : s.result.devErr = (s.result.statusValid && devErrOf s.result.statusByte)
  noStatus : s.result.statusValid = false → s.result = Result.zero
  buffers : BuffersOk s

/-- R155, R158: an error code, the phase and the count recorded with it, and what it says of the received frame. -/
structure OutcomeOk (s : State) (e : ErrCode) (ph : Phase) (cnt : BitVec 9) : Prop where
  record : errRecordOk e ph cnt = true
  rejected : e = .integrity ∨ e = .cfg → s.rxValid = false
  length : e = .length → s.rxValid = true ∧ s.result = Result.zero

/-- R20, R27: no operation runs, and the sequencer is at 0. -/
structure Idle (s : State) : Prop extends ResultsOk s where
  busy : s.busy = false
  phase : s.phase = .idle
  idx : s.idx = 0#9
  elapsed : s.elapsed = 0#32
  outcome : OutcomeOk s s.err s.errPhase s.errCnt

/-- R20, R120: an operation has been accepted and has not completed. -/
structure Accepted (s : State) : Prop extends ResultsOk s where
  busy : s.busy = true
  done : s.done = false
  err : s.err = .none
  record : errRecordOk s.err s.errPhase s.errCnt = true

/-- R91, R25: SEND runs, and its wire image is that of the locked registers. -/
structure SendRuns (s : State) : Prop extends Accepted s where
  op : s.op = .send
  wire : s.wire = s.buildWire
  txCk : s.txCk = ⟨s.wire.getD (4 + s.txHdr.len.toNat) 0#8, s.wire.getD 2 0#8⟩

/-- R28, R54, R101, R102: a receive command runs, its latches those of the locked registers, and no frame is shown. -/
structure RecvRuns (s : State) : Prop extends Accepted s where
  op : s.op.isRecv = true
  lenMode : s.lenchk.lenMode ≠ .reserved
  mode : s.rxModeL = s.ctrl.ckMode
  expect : s.rxExpL = s.rxSrcExpect
  rxValid : s.rxValid = false

/-- The bytes of the frame in RX_STG when a receive phase begins (R28 d). -/
def State.framedBefore (s : State) : Phase → Nat
  | .rxPayload => 4
  | .rxCk => 4 + s.rxLen.toNat
  | .idle | .txHdr | .txPayload | .txCk | .echo | .rxHdr => 0

/-- SEND is in one of its phases, IDX bytes of which have moved. -/
structure Sending (s : State) : Prop extends SendRuns s where
  phase : s.phase.ofSend = true
  window : s.elapsed.toNat < s.timeoutMs.toNat
  echo : s.phase = .echo → s.ctrl.echoEn = true ∧ s.echoStg.length = s.idx.toNat

/-- A receive command is in one of its phases, IDX bytes of which have been staged. -/
structure Receiving (s : State) : Prop extends RecvRuns s where
  phase : s.phase.ofRecv = true
  window : s.elapsed.toNat < s.timeoutMs.toNat
  staged : s.rxStg.length = s.framedBefore s.phase + s.idx.toNat

/-- The engine between two events (R47): idle, or waiting in a phase with bytes left to move. -/
inductive EngineOk (s : State) : Prop
  | idle (h : Idle s)
  | sending (h : Sending s) (left : s.idx.toNat < s.toMove)
  | receiving (h : Receiving s) (left : s.idx.toNat < s.toMove)

/-- The driver software between two events (R146, R70). -/
structure DriverOk (d : Driver) : Prop where
  devices : devicesWf d.devices = true
  owned : d.job ≠ .idle → d.exch ≠ .none
  next : ∀ o, d.exch = .sending (some o) → o.isRecv = true

/-! #### They are the invariant -/

theorem exchangeOk_iff {s : State} :
    ExchangeOk s ↔ (s.driver.job ≠ .idle → s.driver.exch ≠ .none) ∧ ∀ o, s.driver.exch = .sending (some o) → o.isRecv = true := by
  refine and_congr_right fun _ => ?_
  rcases s.driver.exch with _ | (_ | o) | _ | _ | e <;> simp

theorem Inv.driverOk {s : State} (h : Inv s) : DriverOk s.driver :=
  have ⟨owned, next⟩ := exchangeOk_iff.mp h.exchange
  ⟨h.devices, owned, next⟩

theorem Inv.resultsOk {s : State} (h : Inv s) : ResultsOk s :=
  have ⟨shown, _, hidden⟩ := h.view
  have ⟨_, _, _, _, devErr, noStatus⟩ := h.report
  ⟨shown, hidden, devErr, noStatus, h.buffers⟩

theorem Inv.accepted {s : State} (h : Inv s) (hb : s.busy = true) : Accepted s :=
  have ⟨_, hexcl, _, _⟩ := h.sequencer
  have ⟨record, hnone, _⟩ := h.report
  { h.resultsOk with
    busy := hb
    done := by simpa [hb] using hexcl
    err := hnone hb
    record := record }

theorem Inv.engineOk {s : State} (h : Inv s) : EngineOk s := by
  obtain ⟨hbusy, -, hidle, hwait⟩ := h.sequencer
  obtain ⟨hsend, hecho, hrecv⟩ := h.operation
  obtain ⟨hwire, hechoStg, hhdr, hpayload, hck⟩ := h.staging
  obtain ⟨-, hinvalid, -⟩ := h.view
  obtain ⟨record, -, rejected, length, -⟩ := h.report
  by_cases hp : s.phase = .idle
  · obtain ⟨hidx, helapsed⟩ := hidle hp
    exact .idle { h.resultsOk with
      busy := by simpa [hp] using hbusy
      phase := hp, idx := hidx, elapsed := helapsed
      outcome := ⟨record, rejected, length⟩ }
  · have hacc := h.accepted (hbusy.mpr hp)
    obtain ⟨left, window⟩ := hwait hp
    by_cases hs : s.phase.ofSend = true
    · obtain ⟨wire, txCk⟩ := hwire hs
      exact .sending { hacc with
        op := hsend hs, wire, txCk, phase := hs, window
        echo := fun he => ⟨hecho he, hechoStg he⟩ } left
    · have hr : s.phase.ofRecv = true := by
        revert hp hs
        cases s.phase <;> simp [Phase.ofSend, Phase.ofRecv]
      obtain ⟨op, lenMode, mode, expect⟩ := hrecv hr
      refine .receiving { hacc with op, lenMode, mode, expect, rxValid := hinvalid hr, phase := hr, window, staged := ?_ } left
      cases hph : s.phase <;> rw [hph] at hr
      case rxHdr => exact (hhdr hph).trans (Nat.zero_add _).symm
      case rxPayload => exact hpayload hph
      case rxCk =>
        have hmove : s.toMove = 1 := by rw [State.toMove, hph]; rfl
        have hidx : s.idx.toNat = 0 := by omega
        rw [hidx]
        exact hck hph
      all_goals cases hr

/-- The parts of the invariant that an accepted operation gives, whatever its phase. -/
theorem Accepted.report {s : State} (h : Accepted s) : ReportOk s :=
  ⟨h.record, fun _ => h.err, by simp [h.err], by simp [h.err], h.devErr, h.noStatus⟩

theorem Accepted.sequencer {s : State} (h : Accepted s) (hp : s.phase ≠ .idle) (left : s.idx.toNat < s.toMove)
    (window : s.elapsed.toNat < s.timeoutMs.toNat) : SequencerOk s :=
  ⟨by simp [h.busy, hp], by simp [h.done], fun hi => absurd hi hp, fun _ => ⟨left, window⟩⟩

theorem EngineOk.inv {s : State} (h : EngineOk s) (hd : DriverOk s.driver) : Inv s := by
  have hexch := exchangeOk_iff.mpr ⟨hd.owned, hd.next⟩
  cases h with
  | idle h =>
    have hp := h.phase
    exact {
      sequencer := ⟨by simp [h.busy, hp], by simp [h.busy], fun _ => ⟨h.idx, h.elapsed⟩, fun hn => absurd hp hn⟩
      operation := by simp [OperationOk, hp, Phase.ofSend, Phase.ofRecv]
      staging := by simp [StagingOk, hp, Phase.ofSend]
      view := ⟨h.shown, by simp [hp, Phase.ofRecv], h.hidden⟩
      report := ⟨h.outcome.record, by simp [h.busy], h.outcome.rejected, h.outcome.length, h.devErr, h.noStatus⟩
      buffers := h.buffers
      devices := hd.devices
      exchange := hexch }
  | sending h left =>
    have hr := Phase.not_ofRecv_of_ofSend h.phase
    have hne : ∀ p : Phase, p.ofRecv = true → s.phase ≠ p := fun p hp he => hr (he ▸ hp)
    exact {
      sequencer := h.toAccepted.sequencer (Phase.ne_idle_of_ofSend h.phase) left h.window
      operation := ⟨fun _ => h.op, fun he => (h.echo he).1, fun hp => absurd hp hr⟩
      staging := ⟨fun _ => ⟨h.wire, h.txCk⟩, fun he => (h.echo he).2, fun hp => absurd hp (hne _ rfl), fun hp => absurd hp (hne _ rfl),
        fun hp => absurd hp (hne _ rfl)⟩
      view := ⟨h.shown, fun hp => absurd hp hr, h.hidden⟩
      report := h.report
      buffers := h.buffers
      devices := hd.devices
      exchange := hexch }
  | receiving h left =>
    have hs : s.phase.ofSend ≠ true := fun hp => Phase.not_ofRecv_of_ofSend hp h.phase
    have hecho : s.phase ≠ .echo := fun he => hs (by rw [he]; rfl)
    have hstaged := h.staged
    exact {
      sequencer := h.toAccepted.sequencer (Phase.ne_idle_of_ofRecv h.phase) left h.window
      operation := ⟨fun hp => absurd hp hs, fun he => absurd he hecho, fun _ => ⟨h.op, h.lenMode, h.mode, h.expect⟩⟩
      staging := by
        refine ⟨fun hp => absurd hp hs, fun he => absurd he hecho, fun hp => ?_, fun hp => ?_, fun hp => ?_⟩ <;>
          simp only [State.toMove, hp, State.framedBefore, State.toMoveIn] at hstaged left <;> omega
      view := ⟨h.shown, fun _ => h.rxValid, h.hidden⟩
      report := h.report
      buffers := h.buffers
      devices := hd.devices
      exchange := hexch }

end Sys2Proof.Machine
end

section
/-!
PROOFS. The engine keeps the invariant (R47): completion, the phases of SEND and of a receive command, acceptance, and the events of the line and the timebase.
-/

namespace Sys2Proof.Machine

/-! #### What the engine's part of the invariant does not speak of -/

theorem EngineOk.setOutside {s : State} (h : EngineOk s) (c : Bool) (f l : List Byte) (d : Driver) (r : Word) (a : List Event) :
    EngineOk { s with cmdErr := c, rxFifo := f, txLine := l, driver := d, rdata := r, agenda := a } := by
  cases h with
  | idle h => exact .idle { h with outcome := { h.outcome with } }
  | sending h left => exact .sending { h with } left
  | receiving h left => exact .receiving { h with } left

theorem EngineOk.setDriver {s : State} (h : EngineOk s) (d : Driver) : EngineOk { s with driver := d } := h.setOutside _ _ _ _ _ _

theorem EngineOk.setRxFifo {s : State} (h : EngineOk s) (f : List Byte) : EngineOk { s with rxFifo := f } := h.setOutside _ _ _ _ _ _

theorem EngineOk.setCmdErr {s : State} (h : EngineOk s) : EngineOk s.setCmdErr := h.setOutside true _ _ _ _ _

/-- A state with BUSY = 0 is the idle one. -/
theorem EngineOk.idle_of_not_busy {s : State} (h : EngineOk s) (hb : s.busy = false) : Idle s := by
  cases h with
  | idle h => exact h
  | sending h _ | receiving h _ => exact absurd h.busy (by simp [hb])

/-! #### Completion -/

theorem OutcomeOk.success (s : State) : OutcomeOk s .none .idle 0#9 := ⟨rfl, by simp, by simp⟩

theorem ResultsOk.complete {s : State} (h : ResultsOk s) {e : ErrCode} {ph : Phase} {cnt : BitVec 9} (ho : OutcomeOk s e ph cnt) :
    Idle (s.complete e ph cnt) :=
  { h with busy := rfl, phase := rfl, idx := rfl, elapsed := rfl, outcome := { ho with } }

/-- The error record of a window that ends in phase `ph` after `cnt` of its bytes (R44, R45, R155). -/
theorem errRecordOk_timeout {s : State} (hp : s.phase ≠ .idle) (left : s.idx.toNat < s.toMove) :
    errRecordOk s.phase.timeoutErr s.phase s.idx = true := by
  have hlen := s.txHdr.len.isLt
  have hrx := s.rxLen.isLt
  cases hph : s.phase <;> simp only [State.toMove, State.toMoveIn, hph] at left
  case idle => exact absurd hph hp
  all_goals simp [errRecordOk, Phase.timeoutErr, Phase.isWrite, Phase.isRead]; omega

theorem OutcomeOk.timeout {s : State} (hp : s.phase ≠ .idle) (left : s.idx.toNat < s.toMove) :
    OutcomeOk s s.phase.timeoutErr s.phase s.idx := by
  refine ⟨errRecordOk_timeout hp left, ?_, ?_⟩ <;> cases s.phase <;> simp [Phase.timeoutErr]

/-! #### Opening a phase -/

/-- `WriteAll` and `ReadExact` (R44, R45, R48) lead to the invariant when what begins does, while it has bytes to move, and what follows an empty phase does. -/
theorem EngineOk.openPhase {p : Phase} {next : State → State} {s : State} (hp : p ≠ .idle) (hres : ResultsOk (s.beginPhase p))
    (hwait : s.timeoutMs ≠ 0#32 → (s.beginPhase p).toMove ≠ 0 → EngineOk (s.beginPhase p))
    (hnext : (s.beginPhase p).toMove = 0 → EngineOk (next (s.beginPhase p))) : EngineOk (s.openPhase p next) := by
  rcases State.openPhase_cases p next s with ⟨h0, heq⟩ | ⟨hmove, -, heq⟩ | ⟨hmove, ht, heq⟩ <;> rw [heq]
  · exact hnext h0
  · exact .idle (hres.complete (.timeout (s := s.beginPhase p) hp (Nat.pos_of_ne_zero hmove)))
  · exact hwait ht hmove

theorem toNat_pos_of_ne_zero {n : Nat} {x : BitVec n} (h : x ≠ 0#n) : 0 < x.toNat :=
  Nat.pos_of_ne_zero fun h0 => h (BitVec.eq_of_toNat_eq (by simpa using h0))

/-! #### SEND -/

/-- Beginning a phase of SEND touches nothing SEND has latched, and no frame received before. -/
theorem SendRuns.beginPhase {s : State} (h : SendRuns s) {p : Phase} (hp : p.ofSend = true) : SendRuns (s.beginPhase p) := by
  have hne : p ≠ .rxHdr := by rintro rfl; cases hp
  have hstg : (s.beginPhase p).rxStg = s.rxStg := by simp [hne]
  have hlen : (s.beginPhase p).rxLen = s.rxLen := by rw [State.rxLen, hstg]; rfl
  exact { h with shown := by rw [hstg, hlen]; exact h.shown }

theorem SendRuns.openPhase {s : State} (h : SendRuns s) {p : Phase} {next : State → State} (hp : p.ofSend = true)
    (hecho : p = .echo → s.ctrl.echoEn = true) (hnext : ∀ u, SendRuns u → EngineOk (next u)) : EngineOk (s.openPhase p next) := by
  have hb := h.beginPhase hp
  refine EngineOk.openPhase (Phase.ne_idle_of_ofSend hp) hb.toResultsOk (fun ht hmove => ?_) fun _ => hnext _ hb
  refine .sending { hb with phase := hp, window := toNat_pos_of_ne_zero ht, echo := fun he => ⟨hecho he, ?_⟩ } (Nat.pos_of_ne_zero hmove)
  simp [show p = .echo from he]

theorem SendRuns.afterEcho {s : State} (h : SendRuns s) : EngineOk (afterEcho s) := by
  have hlen := s.txHdr.len.isLt
  unfold Machine.afterEcho
  split
  · exact .idle (h.complete (.success s))
  · refine .idle (h.complete ⟨?_, by simp, by simp⟩)
    simp [errRecordOk, BitVec.toNat_ofNat]
    omega

theorem SendRuns.afterTxCk {s : State} (h : SendRuns s) : EngineOk (afterTxCk s) := by
  unfold Machine.afterTxCk
  split
  · next hen => exact h.openPhase rfl (fun _ => hen) fun _ => afterEcho
  · exact .idle (h.complete (.success s))

theorem SendRuns.afterTxPayload {s : State} (h : SendRuns s) : EngineOk (afterTxPayload s) := h.openPhase rfl nofun fun _ => afterTxCk

theorem SendRuns.afterTxHdr {s : State} (h : SendRuns s) : EngineOk (afterTxHdr s) := h.openPhase rfl nofun fun _ => afterTxPayload

/-- A phase of SEND that has moved its last byte (R126). -/
theorem Sending.phaseDone {s : State} (h : Sending s) : EngineOk (phaseDone s) := by
  have hrun := h.toSendRuns
  have hp := h.phase
  unfold Machine.phaseDone
  cases hph : s.phase with
  | txHdr => exact hrun.afterTxHdr
  | txPayload => exact hrun.afterTxPayload
  | txCk => exact hrun.afterTxCk
  | echo => exact hrun.afterEcho
  | idle | rxHdr | rxPayload | rxCk => rw [hph] at hp; cases hp

/-- SEND while idle (R90, R120). -/
theorem Idle.runSend {s : State} (h : Idle s) : EngineOk (runSend (s.accept .send)) := by
  have hrun : SendRuns (s.accept .send).latchWire := { h with busy := rfl, done := rfl, err := rfl, record := rfl, op := rfl, wire := rfl, txCk := rfl }
  exact hrun.openPhase rfl nofun fun _ => SendRuns.afterTxHdr

theorem EngineOk.issueSend {s : State} (h : EngineOk s) : EngineOk (issueSend s) := by
  cases hb : s.busy with
  | true => rw [Machine.issueSend, admitCommand_busy _ _ _ hb]; exact h.setCmdErr
  | false => rw [Machine.issueSend, admitCommand_idle _ _ _ hb]; exact (h.idle_of_not_busy hb).runSend

/-! #### The buffers -/

/-- R18, R26: an element of DBUF stands at a buffer offset. -/
theorem bufferOffset_dbuf {i : Nat} (hi : i < 255) : bufferOffset (dbufBase + 4 * i) = true := by
  simp [bufferOffset, dbufBase]
  omega

theorem bufferOffset_txPayload {i : Nat} (hi : i < 255) : bufferOffset (txPayloadBase + 4 * i) = true := by
  simp [bufferOffset, txPayloadBase]
  omega

theorem BuffersOk.write {s : State} (h : BuffersOk s) {a : Nat} (b : Byte) (ha : bufferOffset a = true) :
    BuffersOk { s with mem := s.mem.write a b } := by
  obtain ⟨hwf, hkeys⟩ := h
  refine ⟨Memory.write_wf _ _ _ hwf, fun c hc => ?_⟩
  rcases Memory.mem_write _ _ _ _ hc with rfl | hc
  · exact ha
  · exact hkeys c hc

theorem BuffersOk.writeElems {s : State} (bs : List Byte) (a : Nat) (h : BuffersOk s) (ha : ∀ i < bs.length, bufferOffset (a + 4 * i) = true) :
    BuffersOk { s with mem := s.mem.writeElems a bs } := by
  induction bs generalizing s a with
  | nil => exact h
  | cons b bs ih =>
    refine ih (s := { s with mem := s.mem.write a b }) (a + 4) (BuffersOk.write h b (ha 0 (by simp))) fun i hi => ?_
    have := ha (i + 1) (by simpa using hi)
    rwa [show a + 4 * (i + 1) = a + 4 + 4 * i by omega] at this

/-- R109: the copy writes only elements of DBUF. -/
theorem BuffersOk.copyToDbuf {s : State} (h : BuffersOk s) : BuffersOk (copyToDbuf s) := by
  have hlen := s.dbufLen.isLt
  have hzero : BuffersOk { s with mem := s.mem.writeElems dbufBase (List.replicate s.dbufLen.toNat 0#8) } := by
    refine BuffersOk.writeElems _ _ h fun i hi => bufferOffset_dbuf ?_
    rw [List.length_replicate] at hi
    omega
  refine BuffersOk.writeElems _ _ hzero fun i hi => bufferOffset_dbuf ?_
  have hmin := (minByte s.rxLen s.dbufLen).isLt
  have hle := List.length_take_le (minByte s.rxLen s.dbufLen).toNat s.rxPayload
  omega

/-! #### The receive commands -/

/-- RESULT is 0 while a receive command runs (R102). -/
theorem RecvRuns.result {s : State} (h : RecvRuns s) : s.result = Result.zero := h.hidden h.rxValid

theorem RecvRuns.beginPhase {s : State} (h : RecvRuns s) (p : Phase) : RecvRuns (s.beginPhase p) :=
  { h with shown := fun hv => absurd hv (by simp [h.rxValid]) }

/-- A receive phase opens over as many staged bytes as come before it (R28 d, R100). -/
theorem RecvRuns.openPhase {s : State} (h : RecvRuns s) {p : Phase} {next : State → State} (hp : p.ofRecv = true)
    (hstg : (s.beginPhase p).rxStg.length = (s.beginPhase p).framedBefore p)
    (hnext : (s.beginPhase p).toMove = 0 → EngineOk (next (s.beginPhase p))) : EngineOk (s.openPhase p next) := by
  have hb := h.beginPhase p
  refine EngineOk.openPhase (Phase.ne_idle_of_ofRecv hp) hb.toResultsOk (fun ht hmove => ?_) hnext
  exact .receiving { hb with phase := hp, window := toNat_pos_of_ne_zero ht, staged := hstg } (Nat.pos_of_ne_zero hmove)

theorem ResultsOk.deliverStatus {s : State} (h : ResultsOk s) (hv : s.rxValid = true) : ResultsOk (deliverStatus s) :=
  { h with
    hidden := fun h0 => absurd (hv.symm.trans h0) nofun
    devErr := (Bool.true_and _).symm
    noStatus := nofun }

theorem ResultsOk.copyToDbuf {s : State} (h : ResultsOk s) (hv : s.rxValid = true) (hst : s.result.statusValid = true) :
    ResultsOk (copyToDbuf s) :=
  { h with
    hidden := fun h0 => absurd (hv.symm.trans h0) nofun
    noStatus := fun h0 => absurd (hst.symm.trans h0) nofun
    buffers := BuffersOk.copyToDbuf h.buffers }

/-- Delivery over a shown frame (R100, R107, R108). -/
theorem ResultsOk.deliver {s : State} (h : ResultsOk s) (hv : s.rxValid = true) : ResultsOk (deliver s) := by
  unfold Machine.deliver
  cases s.op with
  | recvStatus => exact h.deliverStatus hv
  | recvData => exact (h.deliverStatus hv).copyToDbuf hv rfl
  | nop | send | recv => exact h

/-- The end of a frame all of whose bytes are staged (R100, R105, R106): it is shown only when it validates. -/
theorem RecvRuns.finishReceive {s : State} (h : RecvRuns s) (hlen : s.rxStg.length = 5 + s.rxLen.toNat) : EngineOk (finishReceive s) := by
  rcases finishReceive_cases s with ⟨-, heq⟩ | ⟨hok, -, heq⟩ | ⟨hok, -, heq⟩ <;> rw [heq]
  · exact .idle (h.complete ⟨rfl, fun _ => h.rxValid, by simp⟩)
  all_goals
    have hshown : ResultsOk { s with rxValid := true } := { h with shown := fun _ => ⟨hlen, hok⟩, hidden := nofun }
  · exact .idle (hshown.complete ⟨rfl, by simp, fun _ => ⟨rfl, h.result⟩⟩)
  · exact .idle ((hshown.deliver rfl).complete (.success _))

theorem RecvRuns.afterRxPayload {s : State} (h : RecvRuns s) (hlen : s.rxStg.length = 4 + s.rxLen.toNat) : EngineOk (afterRxPayload s) :=
  h.openPhase rfl hlen nofun

theorem RecvRuns.afterRxHdr {s : State} (h : RecvRuns s) (hlen : s.rxStg.length = 4) : EngineOk (afterRxHdr s) :=
  h.openPhase rfl hlen fun hmove => (h.beginPhase _).afterRxPayload (hlen.trans (congrArg (4 + ·) hmove.symm))

/-- A receive phase that has staged its last byte (R126). -/
theorem Receiving.phaseDone {s : State} (h : Receiving s) (hlast : s.idx.toNat = s.toMove) : EngineOk (phaseDone s) := by
  have hrun := h.toRecvRuns
  have hp := h.phase
  have hstg := h.staged
  rw [hlast, State.toMove] at hstg
  unfold Machine.phaseDone
  cases hph : s.phase <;> rw [hph] at hp hstg
  case rxHdr => exact hrun.afterRxHdr hstg
  case rxPayload => exact hrun.afterRxPayload hstg
  case rxCk => exact hrun.finishReceive (by simp only [State.framedBefore, State.toMoveIn] at hstg; omega)
  all_goals cases hp

/-- A receive command while idle (R100, R101, R120). -/
theorem Idle.runRecv {s : State} (h : Idle s) {o : Op} (ho : o.isRecv = true) : EngineOk (runRecv (s.accept o)) := by
  have hrx : (s.accept o).rxValid = false := by simp [ho]
  have hres : (s.accept o).result = Result.zero := by simp [ho]
  have hacc : Accepted (s.accept o).latchMode :=
    { busy := rfl, done := rfl, err := rfl, record := rfl
      shown := fun hv => absurd (hrx.symm.trans hv) nofun
      hidden := fun _ => hres
      devErr := by simp [ho, Result.zero]
      noStatus := fun _ => hres
      buffers := h.buffers }
  unfold Machine.runRecv
  dsimp only
  split
  · exact .idle (hacc.complete ⟨rfl, fun _ => hrx, by simp⟩)
  · next hmode =>
    have hrun : RecvRuns (s.accept o).latchMode := { hacc with op := ho, lenMode := hmode, mode := rfl, expect := rfl, rxValid := hrx }
    exact hrun.openPhase rfl rfl nofun

theorem EngineOk.issueRecv {s : State} (h : EngineOk s) {o : Op} (ho : o.isRecv = true) : EngineOk (issueRecv o s) := by
  cases hb : s.busy with
  | true => rw [Machine.issueRecv, admitCommand_busy _ _ _ hb]; exact h.setCmdErr
  | false => rw [Machine.issueRecv, admitCommand_idle _ _ _ hb]; exact (h.idle_of_not_busy hb).runRecv ho

/-! #### The line and the timebase -/

theorem toNat_idx_succ {s : State} (left : s.idx.toNat < s.toMove) : (s.idx + 1#9).toNat = s.idx.toNat + 1 := by
  have hle := s.toMoveIn_le s.phase
  rw [State.toMove] at left
  rw [BitVec.toNat_add_of_lt] <;> simp
  omega

/-- While bytes are left IDX counts the moved one (R44, R45): it was the phase's last, or others follow. -/
theorem advance_cases (s : State) (left : s.idx.toNat < s.toMove) :
    (s.idx.toNat + 1 = s.toMove ∧ advance s = phaseDone { s with idx := s.idx + 1#9 }) ∨
    (s.idx.toNat + 1 < s.toMove ∧ advance s = { s with idx := s.idx + 1#9 }) := by
  have hmove : State.toMove { s with idx := s.idx + 1#9 } = s.toMove := rfl
  unfold advance
  dsimp only
  rw [hmove, toNat_idx_succ left]
  split
  · next h => exact .inl ⟨h, rfl⟩
  · exact .inr ⟨by omega, rfl⟩

/-- A byte of SEND has moved; in ECHO it already stands in the staging. -/
theorem SendRuns.advance {s : State} (h : SendRuns s) (phase : s.phase.ofSend = true) (window : s.elapsed.toNat < s.timeoutMs.toNat)
    (left : s.idx.toNat < s.toMove) (echo : s.phase = .echo → s.ctrl.echoEn = true ∧ s.echoStg.length = s.idx.toNat + 1) :
    EngineOk (advance s) := by
  have hn : Sending { s with idx := s.idx + 1#9 } :=
    { h with phase, window, echo := by rw [toNat_idx_succ left]; exact echo }
  rcases advance_cases s left with ⟨-, heq⟩ | ⟨hmore, heq⟩ <;> rw [heq]
  · exact hn.phaseDone
  · exact .sending hn ((toNat_idx_succ left).trans_lt hmore)

/-- A byte of a received frame has moved and stands in the staging. -/
theorem RecvRuns.advance {s : State} (h : RecvRuns s) (phase : s.phase.ofRecv = true) (window : s.elapsed.toNat < s.timeoutMs.toNat)
    (left : s.idx.toNat < s.toMove) (staged : s.rxStg.length = s.framedBefore s.phase + (s.idx.toNat + 1)) : EngineOk (advance s) := by
  have hn : Receiving { s with idx := s.idx + 1#9 } :=
    { h with phase, window, staged := by rw [toNat_idx_succ left]; exact staged }
  rcases advance_cases s left with ⟨hlast, heq⟩ | ⟨hmore, heq⟩ <;> rw [heq]
  · exact hn.phaseDone ((toNat_idx_succ left).trans hlast)
  · exact .receiving hn ((toNat_idx_succ left).trans_lt hmore)

theorem State.phase_of_txValid {s : State} (hv : s.txValid = true) : s.phase.isWrite = true ∧ s.idx.toNat < s.toMove := by
  simpa [State.txValid] using hv

theorem State.phase_of_rxReady {s : State} (hv : s.rxReady = true) : s.phase.isRead = true ∧ s.idx.toNat < s.toMove := by
  simpa [State.rxReady] using hv

theorem EngineOk.txAccept {s : State} (h : EngineOk s) : EngineOk (txAccept s) := by
  cases hv : s.txValid with
  | false => rw [txAccept_disabled s hv]; exact h
  | true =>
    obtain ⟨hw, left⟩ := State.phase_of_txValid hv
    rw [txAccept_enabled s hv]
    cases h with
    | idle h => rw [h.phase] at hw; cases hw
    | sending h _ =>
      have hrun : SendRuns { s with txLine := s.txLine ++ [s.txData] } := { h with }
      exact hrun.advance h.phase h.window left fun he => by rw [show s.phase = .echo from he] at hw; cases hw
    | receiving h _ => exact absurd h.phase (Phase.not_ofRecv_of_ofSend (Phase.ofSend_of_isWrite hw))

@[simp] theorem State.stage_phase (b : Byte) (s : State) : (s.stage b).phase = s.phase := by rw [State.stage_eq]
@[simp] theorem State.stage_idx (b : Byte) (s : State) : (s.stage b).idx = s.idx := by rw [State.stage_eq]
@[simp] theorem State.stage_elapsed (b : Byte) (s : State) : (s.stage b).elapsed = s.elapsed := by rw [State.stage_eq]
@[simp] theorem State.stage_timeoutMs (b : Byte) (s : State) : (s.stage b).timeoutMs = s.timeoutMs := by rw [State.stage_eq]
@[simp] theorem State.stage_txHdr (b : Byte) (s : State) : (s.stage b).txHdr = s.txHdr := by rw [State.stage_eq]

/-- The received length byte is wire byte 1 (R63): it stands once two bytes are staged. -/
theorem getD_one_append {l : List Byte} (hl : 2 ≤ l.length) (b : Byte) : (l ++ [b]).getD 1 0#8 = l.getD 1 0#8 := by
  simp [List.getD_eq_getElem?_getD, List.getElem?_append_left (show 1 < l.length by omega)]

/-- In a receive phase after RX_HDR the length byte stands already, and a further byte leaves it. -/
theorem Receiving.rxLen_stage {s : State} (h : Receiving s) (hp : s.phase ≠ .rxHdr) (b : Byte) : (s.stage b).rxLen = s.rxLen := by
  have hphase := h.phase
  have hstaged := h.staged
  rw [State.stage_eq]
  simp only [State.rxLen, hphase, if_true]
  refine getD_one_append ?_ b
  cases hph : s.phase <;> rw [hph] at hp hphase hstaged
  case rxPayload | rxCk => simp only [State.framedBefore] at hstaged; omega
  case rxHdr => exact absurd rfl hp
  all_goals cases hphase

/-- A received byte leaves the number of bytes its phase has to move (R27). -/
theorem EngineOk.toMove_stage {s : State} (h : EngineOk s) (b : Byte) : (s.stage b).toMove = s.toMove := by
  rw [State.toMove, State.toMove, State.stage_phase]
  cases hph : s.phase
  case rxPayload =>
    cases h with
    | idle h => exact absurd (h.phase.symm.trans hph) nofun
    | sending h _ => have hs := h.phase; rw [hph] at hs; cases hs
    | receiving h _ => exact congrArg BitVec.toNat (h.rxLen_stage (by simp [hph]) b)
  all_goals simp only [State.toMoveIn, State.stage_txHdr]

/-- In a phase of SEND a received byte joins the echo only. -/
theorem Sending.stage {s : State} (h : Sending s) (left : s.idx.toNat < s.toMove) (b : Byte) : EngineOk (advance (s.stage b)) := by
  have hmove := (EngineOk.sending h left).toMove_stage b
  have hr : s.phase.ofRecv = false := by simpa using Phase.not_ofRecv_of_ofSend h.phase
  rw [State.stage_eq] at hmove ⊢
  simp only [hr, Bool.false_eq_true, if_false] at hmove ⊢
  refine SendRuns.advance { h with } h.phase h.window (hmove ▸ left) fun he => ?_
  have he : s.phase = .echo := he
  obtain ⟨hen, hlen⟩ := h.echo he
  exact ⟨hen, by simp [he, hlen]⟩

/-- In a receive phase a received byte joins the frame, and what the phase's size rests on stands already. -/
theorem Receiving.stage {s : State} (h : Receiving s) (left : s.idx.toNat < s.toMove) (b : Byte) : EngineOk (advance (s.stage b)) := by
  have hrun : RecvRuns (s.stage b) := by
    rw [State.stage_eq]
    exact { h with shown := fun hv => absurd (h.rxValid.symm.trans hv) nofun }
  have hstg : (s.stage b).rxStg = s.rxStg ++ [b] := by
    rw [State.stage_eq]
    simp [h.phase]
  have hbefore : (s.stage b).framedBefore s.phase = s.framedBefore s.phase := by
    cases hph : s.phase
    case rxCk => exact congrArg (4 + BitVec.toNat ·) (h.rxLen_stage (by simp [hph]) b)
    all_goals rfl
  refine hrun.advance ?_ ?_ ?_ ?_
  · rw [State.stage_phase]
    exact h.phase
  · rw [State.stage_elapsed, State.stage_timeoutMs]
    exact h.window
  · rw [State.stage_idx, (EngineOk.receiving h left).toMove_stage b]
    exact left
  · rw [hstg, State.stage_phase, hbefore, State.stage_idx, List.length_append, h.staged]
    rfl

/-- RxByte with an empty transport (R45). -/
theorem rxByte_empty (s : State) (hf : s.rxFifo = []) : rxByte s = s := by rw [rxByte, hf]

/-- A needed byte is taken (R45). -/
theorem EngineOk.advance_stage {s : State} (h : EngineOk s) (hv : s.rxReady = true) (b : Byte) : EngineOk (advance (s.stage b)) := by
  cases h with
  | idle h => simp [State.rxReady, h.phase, Phase.isRead] at hv
  | sending h left => exact h.stage left b
  | receiving h left => exact h.stage left b

theorem EngineOk.rxByte {s : State} (h : EngineOk s) : EngineOk (rxByte s) := by
  cases hv : s.rxReady with
  | false => rw [rxByte_disabled s hv]; exact h
  | true =>
    cases hf : s.rxFifo with
    | nil => rw [rxByte_empty s hf]; exact h
    | cons b rest =>
      rw [rxByte_enabled s b rest hf hv]
      exact (h.setRxFifo rest).advance_stage hv b

/-- A tick that does not end the window leaves time in it (R46). -/
theorem elapsed_succ_lt {x y : Word} (h : x.toNat < y.toNat) (hne : x + 1#32 ≠ y) : (x + 1#32).toNat < y.toNat := by
  have : (x + 1#32).toNat ≠ y.toNat := fun he => hne (BitVec.eq_of_toNat_eq he)
  bv_omega

theorem EngineOk.tick {s : State} (h : EngineOk s) : EngineOk (tick s) := by
  by_cases hp : s.phase = .idle
  · rw [tick_idle s hp]; exact h
  · rcases tick_cases s hp with ⟨-, heq⟩ | ⟨hne, heq⟩ <;> rw [heq]
    · cases h with
      | idle h => exact absurd h.phase hp
      | sending h left | receiving h left => exact .idle (h.complete (.timeout hp left))
    · cases h with
      | idle h => exact absurd h.phase hp
      | sending h left => exact .sending { h with window := elapsed_succ_lt h.window hne } left
      | receiving h left => exact .receiving { h with window := elapsed_succ_lt h.window hne } left

/-- Reset (R180), for every value of the parameters. -/
theorem engineOk_resetEvent (s : State) : EngineOk (resetEvent s) :=
  .idle {
    shown := nofun, hidden := fun _ => rfl, devErr := rfl, noStatus := fun _ => rfl, buffers := ⟨rfl, nofun⟩
    busy := rfl, phase := rfl, idx := rfl, elapsed := rfl, outcome := .success _ }

/-! #### The host's writes -/

theorem Idle.store {s : State} (h : Idle s) {r : Reg} (hr : r.inRange) (v : Word) : Idle (r.store v s) := by
  cases r with
  | txPayload i => exact { h with buffers := BuffersOk.write h.buffers _ (bufferOffset_txPayload (hr i rfl)), outcome := { h.outcome with } }
  | _ => exact { h with outcome := { h.outcome with } }

/-- While BUSY a write can clear DONE and set or clear CMD_ERR, through STATUS or as a refused write, and nothing else (R20, R54). -/
theorem Reg.write_busy (r : Reg) (v : Word) (s : State) (hb : s.busy = true) :
    ∃ d c, r.write v s = { s with done := s.done && d, cmdErr := c } := by
  cases hl : r.locked with
  | true => exact ⟨true, true, by rw [Reg.write_locked r v s hl hb, Bool.and_true]; rfl⟩
  | false =>
    rw [Reg.write_unlocked r v s hl]
    cases r with
    | ctrl | ownAddr | timeoutMs | rxSrcExpect | txHdr | lenchk | dbufLen | txPayload _ => cases hl
    | status => exact ⟨_, _, rfl⟩
    | cmd | rxHdr | rxCk | result | txCk | rxPayload _ | dbuf _ | unmapped => exact ⟨true, s.cmdErr, by rw [Bool.and_true]; rfl⟩

theorem EngineOk.write {s : State} (h : EngineOk s) {r : Reg} (hr : r.inRange) (v : Word) : EngineOk (r.write v s) := by
  cases hb : s.busy with
  | false => rw [Reg.write_idle r v s hb]; exact .idle ((h.idle_of_not_busy hb).store hr v)
  | true =>
    obtain ⟨d, c, heq⟩ := Reg.write_busy r v s hb
    rw [heq]
    cases h with
    | idle h => exact absurd h.busy (by simp [hb])
    | sending h left => exact .sending { h with done := by simp [h.done] } left
    | receiving h left => exact .receiving { h with done := by simp [h.done] } left

/-! #### The requests -/

theorem EngineOk.writeTxHdr {s : State} (h : EngineOk s) (dest len method : Byte) : EngineOk (writeTxHdr dest len method s) :=
  h.write (Reg.inRange_of_ne (r := .txHdr) nofun) _

theorem EngineOk.writeOperands {s : State} (h : EngineOk s) (dest len method : Byte) (plan : ReplyPlan) :
    EngineOk (writeOperands dest len method plan s) :=
  ((h.writeTxHdr dest len method).write (Reg.inRange_of_ne (r := .rxSrcExpect) nofun) _).write (Reg.inRange_of_ne (r := .lenchk) nofun) _

theorem EngineOk.noteSending {s : State} (h : EngineOk s) (o : Option Op) : EngineOk (noteSending o s) := by
  rw [noteSending_eq]
  exact h.setOutside _ _ _ _ _ _

theorem EngineOk.request {s : State} (h : EngineOk s) (dest len method : Byte) (plan : ReplyPlan) :
    EngineOk (request dest len method plan s) :=
  (h.writeOperands dest len method plan).issueSend.noteSending _

theorem EngineOk.writePayload {s : State} (h : EngineOk s) (i : Nat) (p : List Byte) (hi : i + p.length ≤ 255) :
    EngineOk (writePayload i p s) := by
  induction p generalizing i s with
  | nil => exact h
  | cons b bs ih =>
    rw [List.length_cons] at hi
    exact ih (h.write (fun j hj => by cases hj; omega) _) (i + 1) (by omega)

theorem EngineOk.startExchange {s : State} (h : EngineOk s) (dest method : Byte) {p : List Byte} (hp : p.length ≤ 255) (plan : ReplyPlan) :
    EngineOk (startExchange dest method p plan s) :=
  (h.writePayload 0 p (by omega)).request _ _ _ _

theorem EngineOk.exec {s t : State} (h : EngineOk s) {i : Instr} (ht : exec i s = .next t) : EngineOk t := by
  cases i with
  | nop => cases ht; exact h
  | send => cases ht; exact h.issueSend
  | recv | recvStatus | recvData => cases ht; exact h.issueRecv rfl
  | mReset dest len src => cases ht; exact (h.writeTxHdr dest len _).issueSend.noteSending _
  | mCommsRev dest len | mRdMinh dest len | mModMinh dest len | mRdCredit dest len | mRdInh dest len | mModInh dest len =>
    cases ht; exact h.request dest len _ _

end Sys2Proof.Machine
end

section
/-!
PROOFS. The host and its software keep the invariant (R47): the driver's records and its exchange (R135, R146), host accesses, whole cycles, and so every step.
-/

namespace Sys2Proof.Machine

/-! #### What the block's operations leave of the driver -/

@[simp] theorem Reg.write_driver (r : Reg) (v : Word) (s : State) : (r.write v s).driver = s.driver := by
  unfold Reg.write
  split
  · rfl
  · cases r <;> rfl

/-- An accepted SEND stays within the engine's frame (R90). -/
theorem EngineFrame.issueSend {s : State} (hb : s.busy = false) : EngineFrame s (issueSend s) := by
  have hacc : EngineFrame s (s.accept .send).latchWire := { EngineFrame.refl s with }
  rw [Machine.issueSend, admitCommand_idle _ _ _ hb]
  exact hacc.openPhase .txHdr fun _ => afterTxHdr

/-- An accepted receive command stays within the engine's frame (R100). -/
theorem EngineFrame.issueRecv {s : State} (o : Op) (hb : s.busy = false) : EngineFrame s (issueRecv o s) := by
  have hacc : EngineFrame s (s.accept o).latchMode := { EngineFrame.refl s with }
  rw [Machine.issueRecv, admitCommand_idle _ _ _ hb, runRecv]
  split
  · exact hacc.complete _ _ _
  · exact hacc.openPhase .rxHdr fun _ => afterRxHdr

@[simp] theorem issueSend_driver (s : State) : (issueSend s).driver = s.driver := by
  cases hb : s.busy with
  | true => rw [issueSend, admitCommand_busy _ _ _ hb]; rfl
  | false => exact (EngineFrame.issueSend hb).driver

@[simp] theorem issueRecv_driver (o : Op) (s : State) : (issueRecv o s).driver = s.driver := by
  cases hb : s.busy with
  | true => rw [issueRecv, admitCommand_busy _ _ _ hb]; rfl
  | false => exact (EngineFrame.issueRecv o hb).driver

@[simp] theorem noteSending_driver (o : Option Op) (s : State) : (noteSending o s).driver = s.driver.afterRequest o := by
  rw [noteSending_eq]

theorem request_driver (dest len method : Byte) (plan : ReplyPlan) (s : State) :
    (request dest len method plan s).driver = s.driver.afterRequest (some plan.recvOp) := by
  simp [request, writeOperands, writeTxHdr]

@[simp] theorem writePayload_driver (i : Nat) (p : List Byte) (s : State) : (writePayload i p s).driver = s.driver := by
  induction p generalizing i s with
  | nil => rfl
  | cons b bs ih => exact (ih (i + 1) _).trans (Reg.write_driver _ _ _)

theorem startExchange_driver (dest method : Byte) (p : List Byte) (plan : ReplyPlan) (s : State) :
    (startExchange dest method p plan s).driver = s.driver.afterRequest (some plan.recvOp) := by
  rw [startExchange, request_driver, writePayload_driver]

/-! #### The Device records (R135) -/

/-- A put record's address, or one that was there, bounds the list from below. -/
theorem devicesWfFrom_putDevice {lo : Nat} {d : Device} (hlo : lo ≤ d.address.toNat) (ds : List Device)
    (h : devicesWfFrom lo ds = true) : devicesWfFrom lo (putDevice ds d) = true := by
  induction ds generalizing lo with
  | nil => simpa [putDevice, devicesWfFrom] using hlo
  | cons x ds ih =>
    simp only [devicesWfFrom, Bool.and_eq_true, decide_eq_true_eq] at h
    obtain ⟨hx, hds⟩ := h
    unfold putDevice
    split
    · next hlt => simp [devicesWfFrom, hlo, hds, Nat.succ_le_of_lt hlt]
    · next hge =>
      split
      · next heq => simp [devicesWfFrom, hx, heq, hds]
      · next hne =>
        have hgt : x.address.toNat < d.address.toNat := by
          have : d.address.toNat ≠ x.address.toNat := fun he => hne (BitVec.eq_of_toNat_eq he)
          omega
        simp [devicesWfFrom, hx, ih hgt hds]

theorem devicesWf_putDevice {ds : List Device} (h : devicesWf ds = true) (d : Device) : devicesWf (putDevice ds d) = true :=
  devicesWfFrom_putDevice (Nat.zero_le _) ds h

/-! #### The exchange (R70, R146) -/

/-- A request's exchange takes its place, or an owned one keeps it. -/
theorem driverOk_afterRequest {d : Driver} {recvOp : Option Op} (hdev : devicesWf d.devices = true)
    (ho : ∀ o, recvOp = some o → o.isRecv = true) (howned : d.exchangeOwned = true → DriverOk d) : DriverOk (d.afterRequest recvOp) := by
  unfold Driver.afterRequest
  split
  · next h => exact howned h
  · exact ⟨hdev, nofun, fun o h => ho o (by injection h)⟩

theorem exchangeOwned_of_none {d : Driver} (h : d.exch = .none) : d.exchangeOwned = false := by
  simp [Driver.exchangeOwned, h, Exchange.inProgress]

/-- The driver goes on to a next exchange: the one that ended is over, whatever it was. -/
theorem EngineOk.inv_startExchange {s : State} (h : EngineOk s) (hdev : devicesWf s.driver.devices = true) (hnone : s.driver.exch = .none)
    (dest method : Byte) {p : List Byte} (hp : p.length ≤ 255) {plan : ReplyPlan} (hplan : plan.recvOp.isRecv = true) :
    Inv (Machine.startExchange dest method p plan s) := by
  refine (h.startExchange dest method hp plan).inv ?_
  rw [startExchange_driver]
  refine driverOk_afterRequest hdev (fun o ho => ?_) fun hown => absurd (exchangeOwned_of_none hnone) (by simp [hown])
  injection ho with ho
  exact ho ▸ hplan

section
variable {s : State} (h : EngineOk s) (hdev : devicesWf s.driver.devices = true)
include h hdev

theorem inv_finishCall (r : CallResult) : Inv (finishCall r s) :=
  (h.setDriver _).inv ⟨hdev, fun hj => absurd rfl hj, nofun⟩

/-- A job's exchange starts when the one before is over. -/
theorem inv_startJob (j : Job) (dest method : Byte) {p : List Byte} (hp : p.length ≤ 255) {plan : ReplyPlan} (hplan : plan.recvOp.isRecv = true) :
    Inv (startExchange dest method p plan (setJob j s)) :=
  EngineOk.inv_startExchange (s := setJob j s) (h.setDriver _) hdev rfl dest method hp hplan

theorem inv_startProbe (a : Byte) (v : BitVec 16) (bs : List Bool) : Inv (startProbe a v bs s) :=
  inv_startJob h hdev _ _ _ (by simp) rfl

/-- Recording a Device before a call returns (R137, R143). -/
theorem inv_finishCall_putDevice (d : Device) (r : CallResult) :
    Inv (finishCall r { s with driver := { s.driver with devices := putDevice s.driver.devices d } }) :=
  inv_finishCall (h.setDriver _) (devicesWf_putDevice hdev d) r

theorem inv_probeDone (a : Byte) (v : BitVec 16) (bs : List Bool) (ok : Bool) : Inv (probeDone a v bs ok s) := by
  unfold probeDone
  dsimp only
  split
  · exact inv_startProbe h hdev _ _ _
  · exact inv_finishCall_putDevice h hdev _ _

theorem inv_startSetAccept (d : Device) (on : Bool) : Inv (startSetAccept d on s) := by
  unfold startSetAccept
  split
  · exact inv_startJob h hdev _ _ _ (by simp) rfl
  · split
    · exact inv_startJob h hdev _ _ _ (by simp [maskBytes]) rfl
    · exact inv_finishCall h hdev _

theorem inv_startCall (c : Call) : Inv (startCall c s) := by
  unfold startCall
  cases c with
  | scan a => exact inv_startJob h hdev _ _ _ (by simp) rfl
  | setAcceptCoins a on =>
    dsimp only
    split
    · exact inv_finishCall h hdev _
    · exact inv_startSetAccept h hdev _ on
  | setCoinMask a m =>
    dsimp only
    split
    · exact inv_finishCall h hdev _
    · exact inv_finishCall_putDevice h hdev _ _
  | queryCredits a =>
    dsimp only
    split
    · exact inv_finishCall h hdev _
    · exact inv_startJob h hdev _ _ _ (by simp) rfl

end

/-- The progress of an exchange: it is still there, and a receive command follows a SEND only as it was planned. -/
theorem Inv.setExchange {s : State} (h : Inv s) {x : Exchange} (hx : x ≠ .none) (hnext : ∀ o, x ≠ .sending (some o)) : Inv (setExchange x s) :=
  (h.engineOk.setDriver _).inv ⟨h.devices, fun _ => hx, fun o ho => absurd ho (hnext o)⟩

theorem Inv.issueRecv {s : State} (h : Inv s) {o : Op} (ho : o.isRecv = true) : Inv (issueRecv o s) :=
  (h.engineOk.issueRecv ho).inv (by rw [issueRecv_driver]; exact h.driverOk)

theorem Inv.jobTurn {s : State} (h : Inv s) : Inv (jobTurn s) := by
  have heng := h.engineOk
  have hdev := h.devices
  unfold Machine.jobTurn
  cases s.driver.job with
  | idle =>
    cases s.driver.calls with
    | nil => exact h
    | cons c cs => exact inv_startCall (heng.setDriver { s.driver with calls := cs }) hdev c
  | scanVersion a =>
    cases s.driver.exch with
    | succeeded => exact inv_startProbe heng hdev _ _ _
    | failed e => exact inv_finishCall heng hdev _
    | none | sending _ | receiving => exact h
  | scanProbe a v bs =>
    cases s.driver.exch with
    | succeeded | failed _ => exact inv_probeDone heng hdev _ _ _ _
    | none | sending _ | receiving => exact h
  | setAccept a =>
    cases s.driver.exch with
    | succeeded => dsimp only; split <;> exact inv_finishCall heng hdev _
    | failed e => exact inv_finishCall heng hdev _
    | none | sending _ | receiving => exact h
  | credits a =>
    cases s.driver.exch with
    | succeeded | failed _ => exact inv_finishCall heng hdev _
    | none | sending _ | receiving => exact h

theorem Inv.softwareTurn {s : State} (h : Inv s) : Inv (softwareTurn s) := by
  have hreceiving : Inv (Machine.setExchange .receiving s) := h.setExchange nofun nofun
  have hsucceeded : Inv (Machine.setExchange .succeeded s) := h.setExchange nofun nofun
  have hfailed : Inv (Machine.setExchange (.failed s.err) s) := h.setExchange nofun nofun
  unfold Machine.softwareTurn
  split
  · next next hx =>
    split
    · split
      · split
        · exact hreceiving.issueRecv (h.driverOk.next _ hx)
        · exact hsucceeded
      · exact hfailed
    · exact h
  · split
    · split
      · exact hsucceeded
      · exact hfailed
    · exact h
  all_goals exact h.jobTurn

/-! #### Every step -/

/-- What an instruction does to the driver (R70): a request's exchange is noted, with a receive command to follow where the method has a reply. -/
theorem exec_driver {i : Instr} {s t : State} (ht : exec i s = .next t) :
    t.driver = s.driver ∨
    ∃ recvOp : Option Op, t.driver = s.driver.afterRequest recvOp ∧ ∀ o, recvOp = some o → o.isRecv = true := by
  cases i with
  | nop => cases ht; exact .inl rfl
  | send => cases ht; exact .inl (issueSend_driver s)
  | recv | recvStatus | recvData => cases ht; exact .inl (issueRecv_driver _ s)
  | mReset dest len src => cases ht; exact .inr ⟨none, by simp [writeTxHdr], nofun⟩
  | mCommsRev dest len | mRdMinh dest len | mModMinh dest len | mRdCredit dest len | mRdInh dest len | mModInh dest len =>
    cases ht
    exact .inr ⟨_, request_driver dest len _ _ s, fun o ho => by cases ho; rfl⟩

theorem Inv.exec {i : Instr} {s t : State} (h : Inv s) (ht : exec i s = .next t) : Inv t := by
  refine (h.engineOk.exec ht).inv ?_
  rcases exec_driver ht with hd | ⟨recvOp, hd, ho⟩ <;> rw [hd]
  · exact h.driverOk
  · exact driverOk_afterRequest h.devices ho fun _ => h.driverOk

theorem Inv.hostAccess {a : HostAccess} {s t : State} (h : Inv s) (ht : hostAccess a s = .next t) : Inv t := by
  rcases hostAccess_next ht with ⟨off, -, rfl⟩ | ⟨v, -, hcmd⟩ | ⟨off, v, -, ha, -, rfl⟩
  · exact (h.engineOk.setOutside _ _ _ _ _ _).inv h.driverOk
  · rcases hostCommand_next hcmd with ⟨i, -, hi⟩ | rfl
    · exact h.exec hi
    · exact h.engineOk.setCmdErr.inv h.driverOk
  · exact (h.engineOk.write (Reg.at_ofOffset ha).inRange v).inv (by rw [Reg.write_driver]; exact h.driverOk)

/-- The engine's events write nothing of the driver. -/
theorem EngineOk.inv_of_frame {s t : State} (h : EngineOk t) (hs : Inv s) (hf : EngineFrame s t) : Inv t :=
  h.inv (hf.driver ▸ hs.driverOk)

theorem Inv.txAccept {s : State} (h : Inv s) : Inv (txAccept s) := h.engineOk.txAccept.inv_of_frame h (EngineFrame.refl s).txAccept
theorem Inv.rxByte {s : State} (h : Inv s) : Inv (rxByte s) := h.engineOk.rxByte.inv_of_frame h (EngineFrame.refl s).rxByte
theorem Inv.tick {s : State} (h : Inv s) : Inv (tick s) := h.engineOk.tick.inv_of_frame h (EngineFrame.refl s).tick

theorem inv_resetEvent (s : State) : Inv (resetEvent s) := (engineOk_resetEvent s).inv ⟨rfl, fun hj => absurd rfl hj, nofun⟩

theorem Inv.cycleEvent {c : Cycle} {s t : State} (h : Inv s) (ht : cycleEvent c s = .next t) : Inv t := by
  rcases cycleEvent_next (P := Inv) (fun _ => txAccept) (fun _ => rxByte) (fun _ => tick) h ht with rfl | ⟨u, hu, rfl | ⟨a, ha⟩⟩
  · exact inv_resetEvent s
  · exact hu
  · exact hu.hostAccess ha

theorem Inv.handle {e : Event} {s t : State} (h : Inv s) (ht : handle e s = .next t) : Inv t := by
  cases e with
  | host a => exact h.hostAccess ht
  | request w =>
    obtain ⟨i, -, hi⟩ := issueRequest_next ht
    exact h.exec hi
  | call c => cases ht; exact (h.engineOk.setDriver _).inv { h.driverOk with }
  | software => cases ht; exact h.softwareTurn
  | txAccept => cases ht; exact h.txAccept
  | rxByte => cases ht; exact h.rxByte
  | tick => cases ht; exact h.tick
  | reset => cases ht; exact inv_resetEvent s
  | arrive _ | lose _ => cases ht; exact (h.engineOk.setOutside _ _ _ _ _ _).inv h.driverOk
  | cycle c => exact h.cycleEvent ht

theorem Inv.setAgenda {s : State} (h : Inv s) (rest : List Event) : Inv { s with agenda := rest } :=
  (h.engineOk.setOutside _ _ _ _ _ _).inv h.driverOk

/-- Settles O47: the step takes one event, and each event's handler leads from the three parts of the engine's invariant to one of them. -/
theorem everyStepKeepsTheInvariant : Obligations.EveryStepKeepsTheInvariant := by
  intro s t h ht
  cases ha : s.agenda with
  | nil => rw [step_nil s ha] at ht; cases ht; exact h
  | cons e rest => rw [step_cons s e rest ha] at ht; exact (h.setAgenda rest).handle ht

end Sys2Proof.Machine
end

section
/-!
PROOFS. The register space (R41 to R43): what a defined access reads, what a store changes bit by bit, and which accesses stop.
-/

namespace Sys2Proof.Machine

/-! #### The accesses that stop, and the gaps -/

theorem hostAccess_undefined (size : AccessSize) (off : Nat) (v : Word) (s : State) (ho : off < 0x1000) (hd : size ≠ .word ∨ off % 4 ≠ 0) :
    hostAccess (.read size off) s = .refused .undefinedAccess ∧ hostAccess (.write size off v) s = .refused .undefinedAccess := by
  have hlt : ¬0x1000 ≤ off := by omega
  simp [hostAccess, hlt, accessDefined_eq_false.mpr hd]

theorem hostAccess_outside (size : AccessSize) (off : Nat) (v : Word) (s : State) (ho : 0x1000 ≤ off) :
    hostAccess (.read size off) s = .fault .outsideRegisterSpace ∧ hostAccess (.write size off v) s = .fault .outsideRegisterSpace := by
  simp [hostAccess, ho]

/-- R43: the gaps of the register map. -/
theorem Reg.ofOffset_gap {off : Nat} (ha : off % 4 = 0) (hg : (0x034 ≤ off ∧ off ≤ 0x3FF) ∨ off = 0x7FC ∨ off = 0xBFC ∨ off = 0xFFC) :
    Reg.ofOffset off = .unmapped := by
  simp (disch := omega) only [Reg.ofOffset, if_neg]

/-- Settles O16: each kind of access by the lemma that says what it answers. -/
theorem hostAccessesReadOrStop : Obligations.HostAccessesReadOrStop := by
  intro s rest off
  refine ⟨fun hs ha ho => ?read, fun ha hg => ⟨?gapRead, fun v hs => ?gapWrite⟩, fun size v ho hd => ?undefined, fun size v ho => ?outside⟩
  case read => exact (step_cons s _ rest hs).trans (hostAccess_read off _ ho ha)
  case gapRead => rw [Reg.ofOffset_gap ha hg]; rfl
  case gapWrite =>
    have hu := Reg.ofOffset_gap ha hg
    rw [step_cons s _ rest hs]
    exact (hostAccess_write off v _ (by omega) ha (by simp [hu])).trans (by rw [hu]; rfl)
  case undefined =>
    have h := hostAccess_undefined size off v { s with agenda := rest } ho hd
    exact ⟨fun hs => (step_cons s _ rest hs).trans h.1, fun hs => (step_cons s _ rest hs).trans h.2⟩
  case outside =>
    have h := hostAccess_outside size off v { s with agenda := rest } ho
    exact ⟨fun hs => (step_cons s _ rest hs).trans h.1, fun hs => (step_cons s _ rest hs).trans h.2⟩

/-! #### What a store writes -/

theorem toNat_byte (v : Word) (k : Nat) : (v.extractLsb' k 8).toNat = v.toNat / 2 ^ k % 2 ^ 8 := by
  rw [BitVec.extractLsb'_toNat, Nat.shiftRight_eq_div_pow]

theorem toNat_bit (v : Word) (k : Nat) : (v.getLsbD k).toNat = v.toNat / 2 ^ k % 2 := Nat.toNat_testBit ..

theorem Ctrl.toNat_toWord_ofWord (v : Word) : (Ctrl.ofWord v).toWord.toNat = v.toNat % 2 ^ 3 := by
  have hbit (b : Bool) : (CkMode.ofBit b).bit = b := by cases b <;> rfl
  simp only [Ctrl.toNat_toWord, Ctrl.ofWord, hbit, toNat_bit]
  omega

theorem TxHdr.toNat_toWord_ofWord (v : Word) : (TxHdr.ofWord v).toWord.toNat = v.toNat % 2 ^ 24 := by
  simp only [TxHdr.toNat_toWord, TxHdr.ofWord, byte0, byte1, byte2, toNat_byte]
  omega

theorem LenChk.toNat_toWord_ofWord (v : Word) : (LenChk.ofWord v).toWord.toNat = v.toNat % 2 ^ 10 := by
  have hcode (hi lo : Bool) : (LenMode.ofBits hi lo).code.toNat = lo.toNat + 2 * hi.toNat := by cases hi <;> cases lo <;> rfl
  simp only [LenChk.toNat_toWord, LenChk.ofWord, byte0, hcode, toNat_byte, toNat_bit]
  omega

theorem toNat_wordOfByte_byte0 (v : Word) : (wordOfByte (byte0 v)).toNat = v.toNat % 2 ^ 8 := by
  simp [toNat_wordOfByte, byte0]

/-- A register whose field is the low `n` bits takes those of the written word, and has no bit above them to keep. -/
theorem eq_merge_low {n : Nat} {old new v m : Word} (hm : m = BitVec.ofNat 32 (2 ^ n - 1)) (hold : old.toNat < 2 ^ n)
    (hnew : new.toNat = v.toNat % 2 ^ n) : new = (old &&& ~~~m) ||| (v &&& m) := by
  subst hm
  apply BitVec.eq_of_getLsbD_eq
  intro k hk
  have hmask : (BitVec.ofNat 32 (2 ^ n - 1)).getLsbD k = decide (k < n) := by
    rw [BitVec.getLsbD_ofNat, Nat.testBit_two_pow_sub_one]
    simp [hk]
  have holdk : n ≤ k → old.getLsbD k = false := fun hnk =>
    Nat.testBit_lt_two_pow (hold.trans_le (Nat.pow_le_pow_right (by decide) hnk))
  have hnewk : new.getLsbD k = (decide (k < n) && v.getLsbD k) := by
    rw [BitVec.getLsbD, hnew, Nat.testBit_mod_two_pow]
    rfl
  rw [hnewk, BitVec.getLsbD_or, BitVec.getLsbD_and, BitVec.getLsbD_and, BitVec.getLsbD_not, hmask]
  by_cases hkn : k < n
  · simp [hkn]
  · simp [hkn, holdk (by omega)]

/-- A register without writable bits keeps its own. -/
theorem eq_merge_none (w v : Word) : w = (w &&& ~~~0#32) ||| (v &&& 0#32) := by
  rw [BitVec.not_zero, BitVec.and_allOnes, BitVec.and_zero, BitVec.or_zero]

theorem wordOfByte_lt (b : Byte) : (wordOfByte b).toNat < 2 ^ 8 := by
  rw [toNat_wordOfByte]
  exact b.isLt

theorem Ctrl.toWord_lt (c : Ctrl) : c.toWord.toNat < 2 ^ 3 := by
  have h0 := c.ckMode.bit.toNat_le
  have h1 := c.echoEn.toNat_le
  have h2 := c.irqEn.toNat_le
  rw [Ctrl.toNat_toWord]
  omega

theorem TxHdr.toWord_lt (h : TxHdr) : h.toWord.toNat < 2 ^ 24 := by
  have h0 := h.dest.isLt
  have h1 := h.len.isLt
  have h2 := h.method.isLt
  rw [TxHdr.toNat_toWord]
  omega

theorem LenChk.toWord_lt (l : LenChk) : l.toWord.toNat < 2 ^ 10 := by
  have h0 := l.expLen.isLt
  have h1 := l.lenMode.code.isLt
  rw [LenChk.toNat_toWord]
  omega

/-- R42: a register reads back the written bits where they are writable, and its old bits elsewhere; STATUS alone is not stored so (R20). -/
theorem Reg.read_store_same (r : Reg) (v : Word) (s : State) (hs : r ≠ .status) (hm : s.mem.wf = true) :
    r.read (r.store v s) = (r.read s &&& ~~~r.writableMask) ||| (v &&& r.writableMask) := by
  cases r with
  | ctrl => exact eq_merge_low (n := 3) rfl s.ctrl.toWord_lt (Ctrl.toNat_toWord_ofWord v)
  | ownAddr => exact eq_merge_low (n := 8) rfl (wordOfByte_lt _) (toNat_wordOfByte_byte0 v)
  | timeoutMs => exact eq_merge_low (n := 32) rfl s.timeoutMs.isLt (Nat.mod_eq_of_lt v.isLt).symm
  | rxSrcExpect => exact eq_merge_low (n := 8) rfl (wordOfByte_lt _) (toNat_wordOfByte_byte0 v)
  | txHdr => exact eq_merge_low (n := 24) rfl s.txHdr.toWord_lt (TxHdr.toNat_toWord_ofWord v)
  | lenchk => exact eq_merge_low (n := 10) rfl s.lenchk.toWord_lt (LenChk.toNat_toWord_ofWord v)
  | dbufLen => exact eq_merge_low (n := 8) rfl (wordOfByte_lt _) (toNat_wordOfByte_byte0 v)
  | txPayload i =>
    refine eq_merge_low (n := 8) rfl (wordOfByte_lt _) ?_
    simp only [Reg.read, Reg.store, State.txByte, Memory.read_write_same _ _ _ hm, toNat_wordOfByte_byte0]
  | status => exact absurd rfl hs
  | cmd | rxHdr | rxCk | result | txCk | rxPayload _ | dbuf _ | unmapped => exact eq_merge_none _ v

/-- R42: a store leaves every register but its own reading as before. -/
theorem Reg.read_store_other {r r' : Reg} (hne : r' ≠ r) (hr : r.inRange) (hs : r ≠ .status) (v : Word) (s : State) :
    r'.read (r.store v s) = r'.read s := by
  cases r with
  | ctrl => cases r' with | ctrl => exact absurd rfl hne | _ => rfl
  | ownAddr => cases r' with | ownAddr => exact absurd rfl hne | _ => rfl
  | timeoutMs => cases r' with | timeoutMs => exact absurd rfl hne | _ => rfl
  | rxSrcExpect => cases r' with | rxSrcExpect => exact absurd rfl hne | _ => rfl
  | txHdr => cases r' with | txHdr => exact absurd rfl hne | _ => rfl
  | lenchk => cases r' with | lenchk => exact absurd rfl hne | _ => rfl
  | dbufLen => cases r' with | dbufLen => exact absurd rfl hne | _ => rfl
  | status => exact absurd rfl hs
  | txPayload i =>
    have hi := hr i rfl
    cases r' with
    | txPayload j =>
      have hij : j ≠ i := fun h => hne (h ▸ rfl)
      exact congrArg wordOfByte (Memory.read_write_other _ _ _ _ (by omega))
    | dbuf j => exact congrArg wordOfByte (Memory.read_write_other _ _ _ _ (by simp only [txPayloadBase, dbufBase]; omega))
    | _ => rfl
  | cmd | rxHdr | rxCk | result | txCk | rxPayload _ | dbuf _ | unmapped => rfl

/-- A store writes one of the operand registers, TX_PAYLOAD, DONE or CMD_ERR, and nothing else. -/
theorem Reg.store_frame (r : Reg) (v : Word) (s : State) :
    ∃ ctrl ownAddr timeoutMs rxSrcExpect txHdr lenchk dbufLen mem done cmdErr,
      r.store v s = { s with ctrl, ownAddr, timeoutMs, rxSrcExpect, txHdr, lenchk, dbufLen, mem, done, cmdErr } := by
  cases r <;> exact ⟨_, _, _, _, _, _, _, _, _, _, rfl⟩

/-- The byte of TX_PAYLOAD a store writes stands at the register's own offset (R18). -/
theorem Reg.At.mem_store {off : Nat} {r : Reg} (h : r.At off) (v : Word) (s : State) {a : Nat} (ha : a ≠ off) :
    (r.store v s).mem.read a = s.mem.read a := by
  cases r with
  | txPayload i => exact Memory.read_write_other _ _ _ _ (h.2 ▸ ha)
  | _ => rfl

/-- Settles O13: the write is the register's store, whose own bits, whose other registers and whose frame are said above. -/
theorem hostWriteStoresTheWritableBits : Obligations.HostWriteStoresTheWritableBits := by
  intro s rest off v hs ha ho hc hst hb hm
  have hat := Reg.at_ofOffset ha
  have hstatus : Reg.ofOffset off ≠ .status := fun he => hst (he ▸ hat : Reg.status.At off)
  have hstep : step s = .next ((Reg.ofOffset off).store v { s with agenda := rest }) := by
    rw [step_cons s _ rest hs, ← Reg.write_idle (Reg.ofOffset off) v { s with agenda := rest } hb]
    exact hostAccess_write off v _ ho ha (Reg.ofOffset_ne_cmd ha hc)
  refine ⟨_, hstep, ?same, fun off' ha' _ hne => ?other, fun a hne => hat.mem_store v _ hne, ?frame⟩
  case same => exact (Reg.ofOffset off).read_store_same v _ hstatus hm
  case other =>
    by_cases hu : Reg.ofOffset off = .unmapped
    · rw [hu]; rfl
    · refine Reg.read_store_other (fun he => hne ?_) hat.inRange hstatus v _
      exact (he ▸ Reg.at_ofOffset ha').unique hat hu
  case frame =>
    obtain ⟨_, _, _, _, _, _, _, _, _, _, heq⟩ := (Reg.ofOffset off).store_frame v { s with agenda := rest }
    rw [heq]
    exact ⟨rfl, rfl, rfl, rfl, rfl, rfl, rfl, rfl, rfl, rfl, rfl, rfl, rfl, rfl, rfl⟩

end Sys2Proof.Machine
end

section
/-!
PROOFS. While BUSY the operands are locked (R54), and while idle the results stand (R53, R191): what a host access, a request, a turn of the software and a
whole cycle leave alone.
-/

namespace Sys2Proof.Machine

theorem SameOperands.refl (s : State) : SameOperands s s := (EngineFrame.refl s).toSameOperands

theorem SameOperands.trans {s t u : State} (h : SameOperands s t) (h' : SameOperands t u) : SameOperands s u :=
  ⟨h'.ctrl.trans h.ctrl, h'.ownAddr.trans h.ownAddr, h'.timeoutMs.trans h.timeoutMs, h'.rxSrcExpect.trans h.rxSrcExpect, h'.txHdr.trans h.txHdr,
    h'.lenchk.trans h.lenchk, h'.dbufLen.trans h.dbufLen, fun i hi => (h'.txPayload i hi).trans (h.txPayload i hi)⟩

/-! #### What the host's software does to the block -/

/-- The moves of one turn of the host's software (R70): its own bookkeeping, writes of locked registers, SEND, and the receive commands. -/
inductive HostMoves (s : State) : State → Prop
  | refl : HostMoves s s
  | setDriver {t : State} (h : HostMoves s t) (d : Driver) : HostMoves s { t with driver := d }
  | write {t : State} (h : HostMoves s t) {r : Reg} (hr : r.locked = true) (v : Word) : HostMoves s (r.write v t)
  | issueSend {t : State} (h : HostMoves s t) : HostMoves s (issueSend t)
  | issueRecv {t : State} (h : HostMoves s t) (o : Op) : HostMoves s (issueRecv o t)

namespace HostMoves

variable {u s : State}

theorem noteSending (h : HostMoves u s) (o : Option Op) : HostMoves u (noteSending o s) := by
  rw [noteSending_eq]
  exact h.setDriver _

theorem writeTxHdr (h : HostMoves u s) (dest len method : Byte) : HostMoves u (writeTxHdr dest len method s) := h.write rfl _

theorem request (h : HostMoves u s) (dest len method : Byte) (plan : ReplyPlan) : HostMoves u (request dest len method plan s) :=
  ((((h.writeTxHdr dest len method).write rfl _).write rfl _).issueSend).noteSending _

theorem writePayload (h : HostMoves u s) (i : Nat) (p : List Byte) : HostMoves u (writePayload i p s) := by
  induction p generalizing i s with
  | nil => exact h
  | cons b bs ih => exact ih (h.write rfl _) (i + 1)

theorem startExchange (h : HostMoves u s) (dest method : Byte) (p : List Byte) (plan : ReplyPlan) :
    HostMoves u (startExchange dest method p plan s) :=
  (h.writePayload 0 p).request _ _ _ _

theorem setJob (h : HostMoves u s) (j : Job) : HostMoves u (setJob j s) := h.setDriver _

theorem finishCall (h : HostMoves u s) (r : CallResult) : HostMoves u (finishCall r s) := h.setDriver _

theorem startProbe (h : HostMoves u s) (a : Byte) (v : BitVec 16) (bs : List Bool) : HostMoves u (startProbe a v bs s) :=
  (h.setJob _).startExchange _ _ _ _

theorem probeDone (h : HostMoves u s) (a : Byte) (v : BitVec 16) (bs : List Bool) (ok : Bool) : HostMoves u (probeDone a v bs ok s) := by
  unfold Machine.probeDone
  dsimp only
  split
  · exact h.startProbe _ _ _
  · exact (h.setDriver _).finishCall _

theorem startSetAccept (h : HostMoves u s) (d : Device) (on : Bool) : HostMoves u (startSetAccept d on s) := by
  unfold Machine.startSetAccept
  split
  · exact (h.setJob _).startExchange _ _ _ _
  · split
    · exact (h.setJob _).startExchange _ _ _ _
    · exact h.finishCall _

theorem startCall (h : HostMoves u s) (c : Call) : HostMoves u (startCall c s) := by
  cases c with
  | scan a => exact (h.setJob _).startExchange _ _ _ _
  | setAcceptCoins a on =>
    unfold Machine.startCall
    dsimp only
    split
    · exact h.finishCall _
    · exact h.startSetAccept _ on
  | setCoinMask a m =>
    unfold Machine.startCall
    dsimp only
    split
    · exact h.finishCall _
    · exact (h.setDriver _).finishCall _
  | queryCredits a =>
    unfold Machine.startCall
    dsimp only
    split
    · exact h.finishCall _
    · exact (h.setJob _).startExchange _ _ _ _

theorem jobTurn (h : HostMoves u s) : HostMoves u (jobTurn s) := by
  unfold Machine.jobTurn
  cases s.driver.job with
  | idle =>
    cases s.driver.calls with
    | nil => exact h
    | cons c cs => exact (h.setDriver _).startCall c
  | scanVersion a =>
    cases s.driver.exch with
    | succeeded => exact h.startProbe _ _ _
    | failed e => exact h.finishCall _
    | none | sending _ | receiving => exact h
  | scanProbe a v bs =>
    cases s.driver.exch with
    | succeeded | failed _ => exact h.probeDone _ _ _ _
    | none | sending _ | receiving => exact h
  | setAccept a =>
    cases s.driver.exch with
    | succeeded => dsimp only; split <;> exact h.finishCall _
    | failed e => exact h.finishCall _
    | none | sending _ | receiving => exact h
  | credits a =>
    cases s.driver.exch with
    | succeeded | failed _ => exact h.finishCall _
    | none | sending _ | receiving => exact h

theorem setExchange (h : HostMoves u s) (x : Exchange) : HostMoves u (setExchange x s) := h.setDriver _

theorem softwareTurn (h : HostMoves u s) : HostMoves u (softwareTurn s) := by
  unfold Machine.softwareTurn
  split
  · split
    · split
      · split
        · exact (h.setExchange _).issueRecv _
        · exact h.setExchange _
      · exact h.setExchange _
    · exact h
  · split
    · split <;> exact h.setExchange _
    · exact h
  all_goals exact h.jobTurn

theorem exec (h : HostMoves u s) {i : Instr} {t : State} (ht : exec i s = .next t) : HostMoves u t := by
  cases i with
  | nop => cases ht; exact h
  | send => cases ht; exact h.issueSend
  | recv | recvStatus | recvData => cases ht; exact h.issueRecv _
  | mReset dest len src => cases ht; exact (h.writeTxHdr dest len _).issueSend.noteSending _
  | mCommsRev dest len | mRdMinh dest len | mModMinh dest len | mRdCredit dest len | mRdInh dest len | mModInh dest len =>
    cases ht; exact h.request dest len _ _

/-- R121 a, R54: while BUSY every move is refused, so that of the block only CMD_ERR changes. -/
theorem of_busy (h : HostMoves u s) (hb : u.busy = true) : ∃ c d, s = { u with cmdErr := c, driver := d } := by
  induction h with
  | refl => exact ⟨_, _, rfl⟩
  | setDriver _ d ih => obtain ⟨c, _, rfl⟩ := ih; exact ⟨c, d, rfl⟩
  | write _ hr v ih => obtain ⟨_, d, rfl⟩ := ih; exact ⟨true, d, Reg.write_locked _ v _ hr hb⟩
  | issueSend _ ih => obtain ⟨_, d, rfl⟩ := ih; exact ⟨true, d, admitCommand_busy _ _ _ hb⟩
  | issueRecv _ o ih => obtain ⟨_, d, rfl⟩ := ih; exact ⟨true, d, admitCommand_busy _ _ _ hb⟩

theorem sameOperands_of_busy (h : HostMoves u s) (hb : u.busy = true) : SameOperands u s := by
  obtain ⟨c, d, rfl⟩ := h.of_busy hb
  exact { SameOperands.refl u with }

end HostMoves

/-! #### The host while BUSY, and a whole cycle -/

/-- R54: the offsets of the locked registers. -/
theorem Reg.locked_ofOffset {off : Nat} (ha : off % 4 = 0) (hl : off ≤ 0x018 ∨ (0x400 ≤ off ∧ off ≤ 0x7F8)) :
    (Reg.ofOffset off).locked = true := by
  have hat := Reg.at_ofOffset ha
  cases hr : Reg.ofOffset off <;> rw [hr] at hat
  case ctrl | ownAddr | timeoutMs | rxSrcExpect | txHdr | lenchk | dbufLen | txPayload => rfl
  all_goals
    simp only [Reg.At, rxPayloadBase, dbufBase] at hat
    omega

/-- A command is none of the requests, which alone write operands (R66, R70). -/
theorem isRequest_of_decodeCmd {v : Word} {i : Instr} (h : decodeCmd v = .ok i) : i.isRequest = false := by
  simp only [decodeCmd] at h
  split_ifs at h <;> cases h <;> rfl

/-- The five commands write no operand (R90, R100, R124). -/
theorem SameOperands.exec_command {i : Instr} {s t : State} (hi : i.isRequest = false) (ht : exec i s = .next t) : SameOperands s t := by
  cases hb : s.busy with
  | true => exact (HostMoves.refl.exec ht).sameOperands_of_busy hb
  | false =>
    cases i with
    | nop => cases ht; exact .refl s
    | send => cases ht; exact (EngineFrame.issueSend hb).toSameOperands
    | recv | recvStatus | recvData => cases ht; exact (EngineFrame.issueRecv _ hb).toSameOperands
    | mCommsRev | mReset | mRdMinh | mModMinh | mRdCredit | mRdInh | mModInh => cases hi

/-- After a host access that leaves an operation running no operand has changed: a locked register was not written, or a command was accepted. -/
theorem SameOperands.hostAccess {a : HostAccess} {s t : State} (ht : hostAccess a s = .next t) (hbt : t.busy = true) : SameOperands s t := by
  rcases hostAccess_next ht with ⟨off, -, rfl⟩ | ⟨v, -, hcmd⟩ | ⟨off, v, -, -, -, rfl⟩
  · exact { SameOperands.refl s with }
  · rcases hostCommand_next hcmd with ⟨i, hd, hi⟩ | rfl
    · exact .exec_command (isRequest_of_decodeCmd hd) hi
    · exact { SameOperands.refl s with }
  · cases hb : s.busy with
    | true =>
      obtain ⟨d, c, heq⟩ := Reg.write_busy (Reg.ofOffset off) v s hb
      rw [heq]
      exact { SameOperands.refl s with }
    | false =>
      rw [Reg.write_idle _ v s hb] at hbt
      obtain ⟨_, _, _, _, _, _, _, _, _, _, heq⟩ := (Reg.ofOffset off).store_frame v s
      rw [heq, hb] at hbt
      cases hbt

theorem SameOperands.cycleEvent {c : Cycle} {s t : State} (ht : cycleEvent c s = .next t) (hbt : t.busy = true) : SameOperands s t := by
  rcases cycleEvent_next (P := EngineFrame s) (fun _ => .txAccept) (fun _ => .rxByte) (fun _ => .tick) (.refl s) ht with
    rfl | ⟨u, hu, rfl | ⟨a, ha⟩⟩
  · cases hbt
  · exact hu.toSameOperands
  · exact hu.toSameOperands.trans (.hostAccess ha hbt)

theorem SameOperands.handle {e : Event} {s t : State} (hb : s.busy = true) (ht : handle e s = .next t) (hbt : t.busy = true) :
    SameOperands s t := by
  cases e with
  | host a => exact .hostAccess ht hbt
  | request w =>
    obtain ⟨i, -, hi⟩ := issueRequest_next ht
    exact (HostMoves.refl.exec hi).sameOperands_of_busy hb
  | call c => cases ht; exact { SameOperands.refl s with }
  | software => cases ht; exact HostMoves.refl.softwareTurn.sameOperands_of_busy hb
  | txAccept => cases ht; exact (EngineFrame.refl s).txAccept.toSameOperands
  | rxByte => cases ht; exact (EngineFrame.refl s).rxByte.toSameOperands
  | tick => cases ht; exact (EngineFrame.refl s).tick.toSameOperands
  | reset => cases ht; cases hbt
  | arrive _ | lose _ => cases ht; exact { SameOperands.refl s with }
  | cycle c => exact .cycleEvent ht hbt

/-- Settles O15: a locked write is refused, and every event that leaves the engine busy leaves the operands. -/
theorem operandsAreLockedWhileBusy : Obligations.OperandsAreLockedWhileBusy := by
  refine ⟨fun s rest off v hs ha hl hb => ?refused, fun s t hb ht hbt => ?kept⟩
  case refused =>
    have hlocked := Reg.locked_ofOffset ha hl
    rw [step_cons s _ rest hs]
    refine (hostAccess_write off v _ (by omega) ha fun hc => ?_).trans
      (congrArg Host.Outcome.next (Reg.write_locked _ v { s with agenda := rest } hlocked hb))
    rw [hc] at hlocked
    cases hlocked
  case kept =>
    cases ha : s.agenda with
    | nil => rw [step_nil s ha] at ht; cases ht; exact .refl s
    | cons e rest =>
      rw [step_cons s e rest ha] at ht
      exact { SameOperands.handle (s := { s with agenda := rest }) hb ht hbt with }

end Sys2Proof.Machine
end

section
/-!
PROOFS. The results stand while the engine is idle (R53, R191), and a window ends on its last tick (R44 to R46).
-/

namespace Sys2Proof.Machine

/-! #### The results while idle -/

theorem SameReceived.refl (s : State) : SameReceived s s := ⟨rfl, rfl, rfl, fun _ => rfl, rfl, fun _ _ => rfl⟩

/-- An idle engine takes nothing and times nothing: of a line event only what the transport itself does is left (R7). -/
theorem handle_lineEvent_idle {e : Event} (he : e.isLineEvent = true) {s : State} (hp : s.phase = .idle) :
    ∃ fifo, handle e s = .next { s with rxFifo := fifo } := by
  have htx : s.txValid = false := by simp [State.txValid, hp, Phase.isWrite]
  have hrx : s.rxReady = false := by simp [State.rxReady, hp, Phase.isRead]
  cases e with
  | txAccept => exact ⟨s.rxFifo, congrArg Host.Outcome.next (txAccept_disabled s htx)⟩
  | rxByte => exact ⟨s.rxFifo, congrArg Host.Outcome.next (rxByte_disabled s hrx)⟩
  | tick => exact ⟨s.rxFifo, congrArg Host.Outcome.next (tick_idle s hp)⟩
  | arrive _ | lose _ => exact ⟨_, rfl⟩
  | host _ | request _ | call _ | software | reset | cycle _ => cases he

/-- TX_PAYLOAD ends below DBUF, so a store reaches no byte of DBUF (R18, R26). -/
theorem Reg.dbufByte_store {r : Reg} (hr : r.inRange) (v : Word) (s : State) (i : Nat) : (r.store v s).dbufByte i = s.dbufByte i := by
  cases r with
  | txPayload j =>
    have hj := hr j rfl
    exact Memory.read_write_other _ _ _ _ (by simp only [txPayloadBase, dbufBase]; omega)
  | _ => rfl

theorem Reg.sameReceived_store {r : Reg} (hr : r.inRange) (v : Word) (s : State) : SameReceived s (r.store v s) := by
  have hdbuf := r.dbufByte_store hr v s
  obtain ⟨_, _, _, _, _, _, _, _, _, _, heq⟩ := r.store_frame v s
  rw [heq] at hdbuf ⊢
  exact { SameReceived.refl s with dbuf := fun i _ => hdbuf i }

/-- What stands between a completion and the next acceptance (R53, R191). -/
structure ResultsKept (s t : State) : Prop where
  busy : t.busy = s.busy
  err : t.err = s.err
  errPhase : t.errPhase = s.errPhase
  errCnt : t.errCnt = s.errCnt
  txCk : t.txCk = s.txCk
  received : SameReceived s t

theorem ResultsKept.refl (s : State) : ResultsKept s s := ⟨rfl, rfl, rfl, rfl, rfl, .refl s⟩

theorem ResultsKept.setOutside (s : State) (f : List Byte) (d : Driver) (r : Word) :
    ResultsKept s { s with rxFifo := f, driver := d, rdata := r } :=
  { ResultsKept.refl s with received := { SameReceived.refl s with } }

theorem ResultsKept.store {r : Reg} (hr : r.inRange) (v : Word) (s : State) : ResultsKept s (r.store v s) := by
  have hrecv := r.sameReceived_store hr v s
  obtain ⟨_, _, _, _, _, _, _, _, _, _, heq⟩ := r.store_frame v s
  rw [heq] at hrecv ⊢
  exact ⟨rfl, rfl, rfl, rfl, rfl, hrecv⟩

theorem ResultsKept.hostAccess {a : HostAccess} {s t : State} (hb : s.busy = false) (ha : ∀ v, a ≠ .write .word 0x01C v)
    (ht : hostAccess a s = .next t) : ResultsKept s t := by
  rcases hostAccess_next ht with ⟨off, -, rfl⟩ | ⟨v, rfl, -⟩ | ⟨off, v, -, hal, -, rfl⟩
  · exact .setOutside s _ _ _
  · exact absurd rfl (ha v)
  · rw [Reg.write_idle _ v s hb]
    exact .store (Reg.at_ofOffset hal).inRange v s

/-- Settles O51: with the engine idle none of these events reaches a field the results are read from. -/
theorem resultsAreStableUntilTheNextCommand : Obligations.ResultsAreStableUntilTheNextCommand := by
  intro s t e rest hinv hb ha he ht
  have hp : s.phase = .idle := (hinv.engineOk.idle_of_not_busy hb).phase
  rw [step_cons s e rest ha] at ht
  have hkept : ResultsKept { s with agenda := rest } t := by
    rcases he with he | ⟨c, rfl⟩ | ⟨z, off, rfl⟩ | ⟨z, off, v, rfl, hc⟩
    · obtain ⟨fifo, heq⟩ := handle_lineEvent_idle he (s := { s with agenda := rest }) hp
      rw [heq] at ht
      cases ht
      exact .setOutside _ fifo _ _
    · cases ht
      exact .setOutside _ _ _ _
    · exact .hostAccess (a := .read z off) hb nofun ht
    · exact .hostAccess (a := .write z off v) hb (fun _ hv => hc (by injection hv)) ht
  exact ⟨hkept.busy.trans hb, hkept.err, hkept.errPhase, hkept.errCnt, hkept.txCk, { hkept.received with }⟩

/-! #### The phase timer -/

theorem Phase.timeoutErr_of_isWrite {p : Phase} (h : p.isWrite = true) : p.timeoutErr = .wrTimeout := by
  cases p <;> simp [Phase.isWrite, Phase.timeoutErr] at h ⊢

theorem Phase.timeoutErr_of_isRead {p : Phase} (h : p.isRead = true) : p.timeoutErr = .rdTimeout := by
  cases p <;> simp [Phase.isRead, Phase.timeoutErr] at h ⊢

theorem Phase.ne_idle_of_isWrite {p : Phase} (h : p.isWrite = true) : p ≠ .idle := by rintro rfl; cases h

theorem Phase.ne_idle_of_isRead {p : Phase} (h : p.isRead = true) : p ≠ .idle := by rintro rfl; cases h

/-- The tick that reaches TIMEOUT_MS (R46). -/
theorem tick_last {s : State} (hp : s.phase ≠ .idle) (hlast : s.elapsed.toNat + 1 = s.timeoutMs.toNat) :
    tick s = s.completed s.phase.timeoutErr s.phase s.idx := by
  have heq : s.elapsed + 1#32 = s.timeoutMs := by bv_omega
  rcases tick_cases s hp with ⟨-, h⟩ | ⟨hne, -⟩
  · exact h
  · exact absurd heq hne

/-- A tick with ticks to spare (R46). -/
theorem tick_counts {s : State} (hp : s.phase ≠ .idle) (hspare : s.elapsed.toNat + 1 < s.timeoutMs.toNat) :
    tick s = { s with elapsed := BitVec.ofNat 32 (s.elapsed.toNat + 1) } := by
  have hne : s.elapsed + 1#32 ≠ s.timeoutMs := by bv_omega
  have hsucc : BitVec.ofNat 32 (s.elapsed.toNat + 1) = s.elapsed + 1#32 := by bv_omega
  rcases tick_cases s hp with ⟨heq, -⟩ | ⟨-, h⟩
  · exact absurd heq hne
  · rw [h, hsucc]

/-- Settles O30: the three things a tick can do, by the room left in the window. -/
theorem windowEndsOnItsLastTick : Obligations.WindowEndsOnItsLastTick := by
  intro s rest ha
  have hstep : step s = .next (tick { s with agenda := rest }) := step_cons s _ rest ha
  refine ⟨fun hp => ?idle, fun hp hspare => ?counts, fun hw hlast => ?write, fun hr hlast => ?read⟩ <;>
    refine hstep.trans (congrArg Host.Outcome.next ?_)
  case idle => exact tick_idle _ hp
  case counts => exact tick_counts hp hspare
  case write => exact Phase.timeoutErr_of_isWrite hw ▸ tick_last (s := { s with agenda := rest }) (Phase.ne_idle_of_isWrite hw) hlast
  case read => exact Phase.timeoutErr_of_isRead hr ▸ tick_last (s := { s with agenda := rest }) (Phase.ne_idle_of_isRead hr) hlast

end Sys2Proof.Machine
end

section
/-!
PROOFS. One byte moves (R44, R45, R50): which byte it is, what the rest of the step leaves alone, and the next state while bytes of the phase are left.
-/

namespace Sys2Proof.Machine

/-! #### What follows a phase's last byte, as an induction -/

section
variable {P : State → Prop} (hcomplete : ∀ v e ph cnt, P v → P (v.complete e ph cnt))
include hcomplete

/-- A property that completion, the phase's beginning and what follows an empty phase keep, is kept by opening the phase. -/
theorem openPhase_keeps {p : Phase} {next : State → State} {s : State} (hbegin : P s → P (s.beginPhase p)) (hnext : ∀ v, P v → P (next v))
    (h : P s) : P (s.openPhase p next) := by
  rcases State.openPhase_cases p next s with ⟨-, heq⟩ | ⟨-, -, heq⟩ | ⟨-, -, heq⟩ <;> rw [heq]
  · exact hnext _ (hbegin h)
  · exact hcomplete _ _ _ _ (hbegin h)
  · exact hbegin h

/-- The transitions of SEND (R90, R126) are completions and beginnings of its phases. -/
theorem phaseDone_keeps_ofSend {s : State} (hbegin : ∀ v p, p.ofSend = true → P v → P (v.beginPhase p)) (hs : s.phase.ofSend = true) (h : P s) :
    P (phaseDone s) := by
  have hecho (v : State) (hv : P v) : P (afterEcho v) := by
    unfold afterEcho
    split <;> exact hcomplete _ _ _ _ hv
  have hck (v : State) (hv : P v) : P (afterTxCk v) := by
    unfold afterTxCk
    split
    · exact openPhase_keeps hcomplete (hbegin _ _ rfl) hecho hv
    · exact hcomplete _ _ _ _ hv
  have hpayload (v : State) (hv : P v) : P (afterTxPayload v) := openPhase_keeps hcomplete (hbegin _ _ rfl) hck hv
  unfold phaseDone
  cases hp : s.phase with
  | txHdr => exact openPhase_keeps hcomplete (hbegin _ _ rfl) hpayload h
  | txPayload => exact hpayload s h
  | txCk => exact hck s h
  | echo => exact hecho s h
  | idle | rxHdr | rxPayload | rxCk => rw [hp] at hs; cases hs

/-- The transitions of a receive command (R100, R126) are completions, beginnings of its phases, and the delivery of a shown frame. -/
theorem phaseDone_keeps_ofRecv {s : State} (hbegin : ∀ v p, p.ofRecv = true → P v → P (v.beginPhase p)) (hshow : ∀ v, P v → P { v with rxValid := true })
    (hdeliver : ∀ v, P v → P (deliver v)) (hs : s.phase.ofRecv = true) (h : P s) : P (phaseDone s) := by
  have hfinish (v : State) (hv : P v) : P (finishReceive v) := by
    rcases finishReceive_cases v with ⟨-, heq⟩ | ⟨-, -, heq⟩ | ⟨-, -, heq⟩ <;> rw [heq]
    · exact hcomplete _ _ _ _ hv
    · exact hcomplete _ _ _ _ (hshow v hv)
    · exact hcomplete _ _ _ _ (hdeliver _ (hshow v hv))
  have hpayload (v : State) (hv : P v) : P (afterRxPayload v) := openPhase_keeps hcomplete (hbegin _ _ rfl) hfinish hv
  unfold phaseDone
  cases hp : s.phase with
  | rxHdr => exact openPhase_keeps hcomplete (hbegin _ _ rfl) hpayload h
  | rxPayload => exact hpayload s h
  | rxCk => exact hfinish s h
  | idle | txHdr | txPayload | txCk | echo => rw [hp] at hs; cases hs

end

/-! #### What the transitions leave alone -/

/-- R50, R44, R25: the transport's bytes, the line and TX_CK. -/
structure SameStreams (s t : State) : Prop where
  rxFifo : t.rxFifo = s.rxFifo
  txLine : t.txLine = s.txLine
  txCk : t.txCk = s.txCk

theorem SameStreams.refl (s : State) : SameStreams s s := ⟨rfl, rfl, rfl⟩

theorem SameStreams.deliver {u s : State} (h : SameStreams u s) : SameStreams u (deliver s) := by
  unfold Machine.deliver
  cases s.op with
  | recvStatus | recvData => exact { h with }
  | nop | send | recv => exact h

/-- R127: the engine takes and offers bytes only where they move; between two phases none does. -/
theorem SameStreams.phaseDone (s : State) : SameStreams s (phaseDone s) := by
  have hcomplete (v : State) (e : ErrCode) (ph : Phase) (cnt : BitVec 9) (h : SameStreams s v) : SameStreams s (v.complete e ph cnt) := { h with }
  have hbegin (v : State) (p : Phase) (h : SameStreams s v) : SameStreams s (v.beginPhase p) := { h with }
  by_cases hs : s.phase.ofSend = true
  · exact phaseDone_keeps_ofSend hcomplete (fun v p _ => hbegin v p) hs (.refl s)
  · by_cases hr : s.phase.ofRecv = true
    · exact phaseDone_keeps_ofRecv hcomplete (fun v p _ => hbegin v p) (fun v h => { h with }) (fun v => deliver) hr (.refl s)
    · have hp : s.phase = .idle := by
        revert hs hr
        cases s.phase <;> simp [Phase.ofSend, Phase.ofRecv]
      rw [Machine.phaseDone, hp]
      exact .refl s

/-- Everything the RX view, RESULT and DBUF are read from (R22 to R26). -/
structure SameFrame (s t : State) : Prop where
  rxValid : t.rxValid = s.rxValid
  rxStg : t.rxStg = s.rxStg
  rxModeL : t.rxModeL = s.rxModeL
  rxExpL : t.rxExpL = s.rxExpL
  result : t.result = s.result
  mem : t.mem = s.mem

theorem SameFrame.refl (s : State) : SameFrame s s := ⟨rfl, rfl, rfl, rfl, rfl, rfl⟩

theorem SameFrame.sameReceived {s t : State} (h : SameFrame s t) : SameReceived s t where
  rxValid := h.rxValid
  rxHdr := by simp [State.rxHdrWord, State.rxSrc, h.rxValid, h.rxStg, h.rxModeL, h.rxExpL]
  rxCk := by simp [State.rxCkWord, State.rxLen, h.rxValid, h.rxStg]
  rxPayload i := by simp [State.rxPayloadByte, State.rxLen, h.rxValid, h.rxStg]
  result := h.result
  dbuf i _ := by simp [State.dbufByte, h.mem]

/-- R158: SEND leaves everything received before. -/
theorem SameFrame.phaseDone {s : State} (hs : s.phase.ofSend = true) : SameFrame s (phaseDone s) := by
  refine phaseDone_keeps_ofSend (fun v e ph cnt h => { h with }) (fun v p hp h => { h with rxStg := ?_ }) hs (.refl s)
  have hne : p ≠ .rxHdr := by rintro rfl; cases hp
  simpa [hne] using h.rxStg

/-! #### A counted byte -/

/-- Staging touches neither stream. -/
theorem SameStreams.stage (b : Byte) (s : State) : SameStreams s (s.stage b) := by
  rw [State.stage_eq]
  exact { SameStreams.refl s with }

theorem SameStreams.trans {s t u : State} (h : SameStreams s t) (h' : SameStreams t u) : SameStreams s u :=
  ⟨h'.rxFifo.trans h.rxFifo, h'.txLine.trans h.txLine, h'.txCk.trans h.txCk⟩

theorem SameStreams.advance {s : State} (left : s.idx.toNat < s.toMove) : SameStreams s (advance s) := by
  rcases advance_cases s left with ⟨-, heq⟩ | ⟨-, heq⟩ <;> rw [heq]
  · exact { SameStreams.phaseDone { s with idx := s.idx + 1#9 } with }
  · exact { SameStreams.refl s with }

theorem SameFrame.advance {s : State} (hs : s.phase.ofSend = true) (left : s.idx.toNat < s.toMove) : SameFrame s (advance s) := by
  rcases advance_cases s left with ⟨-, heq⟩ | ⟨-, heq⟩ <;> rw [heq]
  · exact { SameFrame.phaseDone (s := { s with idx := s.idx + 1#9 }) hs with }
  · exact { SameFrame.refl s with }

/-- While bytes of the phase are left the moved byte is only counted (R44, R45). -/
theorem advance_more {s : State} (hmore : s.idx.toNat + 1 < s.toMove) : advance s = { s with idx := BitVec.ofNat 9 (s.idx.toNat + 1) } := by
  have hsucc : BitVec.ofNat 9 (s.idx.toNat + 1) = s.idx + 1#9 := by bv_omega
  rcases advance_cases s (by omega) with ⟨hlast, -⟩ | ⟨-, heq⟩
  · omega
  · rw [heq, hsucc]

/-! #### TxAccept -/

/-- A write phase is SEND's, whose wire image is that of the registers (R91). -/
theorem Inv.wire_of_isWrite {s : State} (h : Inv s) (hw : s.phase.isWrite = true) : s.wire = s.buildWire :=
  have ⟨hwire, _⟩ := h.staging
  (hwire (Phase.ofSend_of_isWrite hw)).1

theorem Inv.busy_of_ne_idle {s : State} (h : Inv s) (hp : s.phase ≠ .idle) : s.busy = true :=
  have ⟨hbusy, _⟩ := h.sequencer
  hbusy.mpr hp

/-- R91: the byte offered is the one of the wire image at the phase's place. -/
theorem Inv.txData_eq {s : State} (h : Inv s) (hw : s.phase.isWrite = true) :
    s.txData = s.buildWire.getD
      ((match s.phase with | .txPayload => 4 | .txCk => 4 + s.txHdr.len.toNat | _ => 0) + s.idx.toNat) 0#8 := by
  rw [State.txData, h.wire_of_isWrite hw, State.wireBase]
  cases s.phase <;> rfl

section
variable {s : State} (hv : s.txValid = true)
include hv

/-- The byte goes to the line (R44). -/
theorem txAccept_streams : (txAccept s).txLine = s.txLine ++ [s.txData] ∧ (txAccept s).rxFifo = s.rxFifo ∧ (txAccept s).txCk = s.txCk := by
  have h := SameStreams.advance (s := { s with txLine := s.txLine ++ [s.txData] }) (State.phase_of_txValid hv).2
  rw [txAccept_enabled s hv]
  exact ⟨h.txLine, h.rxFifo, h.txCk⟩

theorem txAccept_sameReceived : SameReceived s (txAccept s) := by
  obtain ⟨hw, left⟩ := State.phase_of_txValid hv
  rw [txAccept_enabled s hv]
  have h := SameFrame.advance (s := { s with txLine := s.txLine ++ [s.txData] }) (Phase.ofSend_of_isWrite hw) left
  exact SameFrame.sameReceived { h with }

theorem txAccept_more (hmore : s.idx.toNat + 1 < s.toMove) :
    txAccept s = { s with txLine := s.txLine ++ [s.txData], idx := BitVec.ofNat 9 (s.idx.toNat + 1) } := by
  rw [txAccept_enabled s hv]
  exact advance_more hmore

end

/-- IDX has room for every count of a phase's bytes (R27). -/
theorem toNat_idx_of_lt_toMove {s : State} {n : Nat} (h : n < s.toMove) : (BitVec.ofNat 9 n).toNat = n := by
  have hle := s.toMoveIn_le s.phase
  rw [State.toMove] at h
  rw [BitVec.toNat_ofNat]
  omega

/-- Settles O31: the byte is that of the wire image at the place of the phase, and the rest of the step stays within its frames. -/
theorem txAcceptSendsTheNextByteOfTheImage : Obligations.TxAcceptSendsTheNextByteOfTheImage := by
  intro s rest hinv ha
  have hstep : step s = .next (txAccept { s with agenda := rest }) := step_cons s _ rest ha
  refine ⟨fun hv => hstep.trans (congrArg Host.Outcome.next (txAccept_disabled _ hv)), fun hv => ⟨_, hstep, ?_⟩⟩
  obtain ⟨hw, -⟩ := State.phase_of_txValid hv
  obtain ⟨hline, hfifo, hck⟩ := txAccept_streams (s := { s with agenda := rest }) hv
  have hframe := (EngineFrame.refl { s with agenda := rest }).txAccept
  refine ⟨hline.trans (congrArg (fun b => s.txLine ++ [b]) (hinv.txData_eq hw)), hfifo, { hframe.toSameOperands with },
    { txAccept_sameReceived (s := { s with agenda := rest }) hv with }, hframe.driver, hck, hframe.cmdErr, fun hmore => ?_⟩
  rw [txAccept_more (s := { s with agenda := rest }) hv hmore]
  exact ⟨rfl, toNat_idx_of_lt_toMove hmore, rfl, hinv.busy_of_ne_idle (Phase.ne_idle_of_isWrite hw)⟩

/-! #### RxByte -/

/-- A read phase is ECHO or a receive phase (R27). -/
theorem Phase.ofRecv_of_isRead {p : Phase} (h : p.isRead = true) : p.ofRecv = !decide (p = .echo) := by
  cases p <;> simp [Phase.isRead, Phase.ofRecv] at h ⊢

section
variable {s : State} (h : EngineOk s) {b : Byte} {fifo : List Byte} (hv : s.rxReady = true) (hf : s.rxFifo = b :: fifo)
include h hv hf

/-- The oldest byte is gone from the transport (R50). -/
theorem rxByte_streams : (rxByte s).rxFifo = fifo ∧ (rxByte s).txLine = s.txLine ∧ (rxByte s).txCk = s.txCk := by
  obtain ⟨-, left⟩ := State.phase_of_rxReady hv
  have hmove : ({ s with rxFifo := fifo }.stage b).toMove = s.toMove := (h.setRxFifo fifo).toMove_stage b
  rw [rxByte_enabled s b fifo hf hv]
  obtain ⟨hfifo, hline, hck⟩ :=
    (SameStreams.stage b { s with rxFifo := fifo }).trans (.advance (by rw [State.stage_idx, hmove]; exact left))
  exact ⟨hfifo, hline, hck⟩

/-- While bytes of the phase are left the byte joins its staging, and is counted (R28, R45). -/
theorem rxByte_more (hmore : s.idx.toNat + 1 < s.toMove) :
    rxByte s = { s with
      rxFifo := fifo, idx := BitVec.ofNat 9 (s.idx.toNat + 1)
      echoStg := if s.phase = .echo then s.echoStg ++ [b] else s.echoStg
      rxStg := if s.phase = .echo then s.rxStg else s.rxStg ++ [b] } := by
  obtain ⟨hr, -⟩ := State.phase_of_rxReady hv
  have hmove : ({ s with rxFifo := fifo }.stage b).toMove = s.toMove := (h.setRxFifo fifo).toMove_stage b
  rw [rxByte_enabled s b fifo hf hv, advance_more (by rw [State.stage_idx, hmove]; exact hmore), State.stage_eq]
  simp only [Phase.ofRecv_of_isRead hr]
  by_cases he : s.phase = .echo <;> simp [he]

end

/-- Settles O32: the oldest byte is staged, and it is counted or the phase is done within the engine's frames. -/
theorem rxByteTakesTheOldestByte : Obligations.RxByteTakesTheOldestByte := by
  intro s rest hinv ha
  have hstep : step s = .next (rxByte { s with agenda := rest }) := step_cons s _ rest ha
  have hok := (hinv.setAgenda rest).engineOk
  refine ⟨fun hoff => hstep.trans (congrArg Host.Outcome.next ?disabled), fun b fifo hv hf => ⟨⟨_, hstep, ?frame⟩, fun hmore => ?more⟩⟩
  case disabled => exact hoff.elim (rxByte_disabled { s with agenda := rest }) (rxByte_empty { s with agenda := rest })
  case frame =>
    obtain ⟨hfifo, hline, hck⟩ := rxByte_streams hok hv hf
    have hframe := (EngineFrame.refl { s with agenda := rest }).rxByte
    exact ⟨hfifo, hline, { hframe.toSameOperands with }, hframe.driver, hck, hframe.cmdErr⟩
  case more => exact hstep.trans (congrArg Host.Outcome.next (rxByte_more hok hv hf hmore))

end Sys2Proof.Machine
end

section
/-!
PROOFS. The two decoders and the encoder (R66, R67): the fields of a request word, the command as a function of its low byte,
and that decoding and encoding undo each other.
-/

namespace Sys2Proof.Machine

/-! #### The four bytes of a request word -/

theorem toNat_requestWord (dest len src method : Byte) :
    (requestWord dest len src method).toNat = dest.toNat + len.toNat * 2 ^ 8 + src.toNat * 2 ^ 16 + method.toNat * 2 ^ 24 := by
  simp only [requestWord, toNat_append_eq_add]
  omega

theorem toNat_methodField (w : Word) : (methodField w).toNat = w.toNat / 2 ^ 24 := by
  have := w.isLt
  rw [methodField, toNat_byte]
  omega

section
variable (dest len src method : Byte)

@[simp] theorem destField_requestWord : destField (requestWord dest len src method) = dest := by
  refine BitVec.eq_of_toNat_eq ?_
  rw [destField, toNat_byte, toNat_requestWord]
  omega

@[simp] theorem lenField_requestWord : lenField (requestWord dest len src method) = len := by
  refine BitVec.eq_of_toNat_eq ?_
  rw [lenField, toNat_byte, toNat_requestWord]
  omega

@[simp] theorem srcField_requestWord : srcField (requestWord dest len src method) = src := by
  refine BitVec.eq_of_toNat_eq ?_
  rw [srcField, toNat_byte, toNat_requestWord]
  omega

@[simp] theorem methodField_requestWord : methodField (requestWord dest len src method) = method := by
  refine BitVec.eq_of_toNat_eq ?_
  rw [toNat_methodField, toNat_requestWord]
  omega

end

/-- A word is made of its own four bytes (R67). -/
theorem requestWord_fields (w : Word) : requestWord (destField w) (lenField w) (srcField w) (methodField w) = w := by
  refine BitVec.eq_of_toNat_eq ?_
  rw [toNat_requestWord, toNat_methodField, destField, lenField, srcField]
  simp only [toNat_byte]
  omega

/-! #### The decoder of requests -/

/-- R67: the decoder takes the encoder's word apart, and no method code stands for two requests. -/
theorem decodeRequest_encode {i : Instr} (hi : i.isRequest = true) : decodeRequest (encode i) = .ok i := by
  cases i with
  | nop | send | recv | recvStatus | recvData => cases hi
  | mCommsRev | mReset | mRdMinh | mModMinh | mRdCredit | mRdInh | mModInh =>
    simp only [encode, decodeRequest, destField_requestWord, lenField_requestWord, srcField_requestWord, methodField_requestWord]
    rfl

/-- R67: what is decoded is a request, whose word is the one read. -/
theorem encode_of_decodeRequest {w : Word} {i : Instr} (h : decodeRequest w = .ok i) : i.isRequest = true ∧ encode i = w := by
  have hw := requestWord_fields w
  simp only [decodeRequest] at h
  split_ifs at h with hm hm hm hm hm hm hm <;> cases h <;> exact ⟨rfl, by rw [encode, ← hm, hw]⟩

theorem decodeRequest_eq_ok_iff {w : Word} {i : Instr} : decodeRequest w = .ok i ↔ i.isRequest = true ∧ encode i = w :=
  ⟨encode_of_decodeRequest, fun ⟨hi, hw⟩ => hw ▸ decodeRequest_encode hi⟩

/-- The seven method codes (R67, assumption 2). -/
def requestMethods : List Byte :=
  [Config.methodCommsRev, Config.methodReset, Config.methodRdMinh, Config.methodModMinh, Config.methodRdCredit, Config.methodRdInh, Config.methodModInh]

/-- R67: byte 3 alone decides whether a word is a request. -/
theorem exists_decodeRequest_iff (w : Word) : (∃ i, decodeRequest w = .ok i) ↔ methodField w ∈ requestMethods := by
  simp only [decodeRequest, requestMethods]
  split_ifs <;> simp [*]

/-- Settles O3: decoding and encoding undo each other, and the codes as numbers are bits 31:24. -/
theorem requestIsMatchedByItsMethodByte : Obligations.RequestIsMatchedByItsMethodByte := by
  refine ⟨fun w i => decodeRequest_eq_ok_iff, fun w => ?_⟩
  have hcodes : [4, 1, 227, 228, 229, 230, 231] = requestMethods.map BitVec.toNat := rfl
  rw [exists_decodeRequest_iff, ← toNat_methodField, hcodes, List.mem_map_of_injective BitVec.toNat_injective]

/-! #### The decoder of commands -/

theorem toNat_opField (w : Word) : (opField w).toNat = w.toNat % 256 := toNat_byte w 0 |>.trans (by simp)

theorem decodeCmd_congr {v w : Word} (h : opField v = opField w) : decodeCmd v = decodeCmd w := by
  simp only [decodeCmd, h]

/-- R66, R68: the five opcodes are the numbers below 5. -/
theorem decodeCmd_eq_error_iff (w : Word) : (∃ e, decodeCmd w = .error e) ↔ 5 ≤ (opField w).toNat := by
  simp only [decodeCmd]
  split_ifs
  case neg =>
    simp only [Except.error.injEq, exists_eq', true_iff]
    bv_omega
  all_goals simp [*]

theorem decodeCmd_encode {i : Instr} (hi : i.isRequest = false) : decodeCmd (encode i) = .ok i := by
  cases i with
  | nop | send | recv | recvStatus | recvData => rfl
  | mCommsRev | mReset | mRdMinh | mModMinh | mRdCredit | mRdInh | mModInh => cases hi

/-! #### The table's decoder -/

/-- A command's own word has no method code in byte 3 (assumption 5). -/
theorem isRequestWord_encode (i : Instr) : isRequestWord (encode i) = i.isRequest := by
  cases hi : i.isRequest with
  | true => simp [isRequestWord, decodeRequest_encode hi]
  | false =>
    cases i with
    | nop | send | recv | recvStatus | recvData => rfl
    | mCommsRev | mReset | mRdMinh | mModMinh | mRdCredit | mRdInh | mModInh => cases hi

theorem tableWord_toNat (w : Word) : tableWord 32 w.toNat = w := by
  rw [tableWord, Nat.mod_eq_of_lt w.isLt, BitVec.ofNat_toNat, BitVec.setWidth_eq]

/-- Settles O1: each format's decoder takes its own words apart, and the table's decoder chooses the format the instruction has (assumption 5). -/
theorem decodingAnEncodedInstructionGivesItBack : Obligations.DecodingAnEncodedInstructionGivesItBack := by
  intro i
  have hown : (if i.isRequest then decodeRequest (encode i) else decodeCmd (encode i)) = .ok i := by
    split
    · next hi => exact decodeRequest_encode hi
    · next hi => exact decodeCmd_encode (by simpa using hi)
  refine ⟨hown, decodeTableWord_eq_some.mpr ?_⟩
  rw [tableWord_toNat, decodeWord, isRequestWord_encode]
  exact hown

/-- Settles O2: a command is decoded from its low byte alone. -/
theorem commandIsTheLowByteAlone : Obligations.CommandIsTheLowByteAlone := by
  refine ⟨fun v w h => decodeCmd_congr (BitVec.eq_of_toNat_eq ?_), fun v => ?_⟩
  · rw [toNat_opField, toNat_opField, h]
  · rw [decodeCmd_eq_error_iff, toNat_opField]

/-- Settles O4: each word is a closed term. -/
theorem wordsOfTheSpecDecode : Obligations.WordsOfTheSpecDecode := by
  unfold Obligations.WordsOfTheSpecDecode
  decide

end Sys2Proof.Machine
end

section
/-!
PROOFS. The requests (R67, R70): XCHG's operand writes and SEND with the engine idle, and the request's word on the wire (R91).
-/

namespace Sys2Proof.Machine

/-! #### What the host's writes of the operands store -/

@[simp] theorem byte0_wordOfByte (b : Byte) : byte0 (wordOfByte b) = b := by
  refine BitVec.eq_of_toNat_eq ?_
  rw [byte0, toNat_byte, toNat_wordOfByte]
  omega

@[simp] theorem TxHdr.ofWord_toWord (h : TxHdr) : TxHdr.ofWord h.toWord = h := by
  have hdest : byte0 h.toWord = h.dest := by
    refine BitVec.eq_of_toNat_eq ?_
    rw [byte0, toNat_byte, TxHdr.toNat_toWord]
    omega
  have hlen : byte1 h.toWord = h.len := by
    refine BitVec.eq_of_toNat_eq ?_
    rw [byte1, toNat_byte, TxHdr.toNat_toWord]
    omega
  have hmethod : byte2 h.toWord = h.method := by
    refine BitVec.eq_of_toNat_eq ?_
    rw [byte2, toNat_byte, TxHdr.toNat_toWord]
    omega
  rw [TxHdr.ofWord, hdest, hlen, hmethod]

theorem LenMode.ofBits_code (m : LenMode) : LenMode.ofBits (m.code.getLsbD 1) (m.code.getLsbD 0) = m := by cases m <;> rfl

@[simp] theorem LenChk.ofWord_toWord (l : LenChk) : LenChk.ofWord l.toWord = l := by
  have hexp : byte0 l.toWord = l.expLen := by
    refine BitVec.eq_of_toNat_eq ?_
    rw [byte0, toNat_byte, LenChk.toNat_toWord]
    omega
  have hhi : l.toWord.getLsbD 9 = l.lenMode.code.getLsbD 1 := by rw [LenChk.toWord, BitVec.getLsbD_append, BitVec.getLsbD_append]; rfl
  have hlo : l.toWord.getLsbD 8 = l.lenMode.code.getLsbD 0 := by rw [LenChk.toWord, BitVec.getLsbD_append, BitVec.getLsbD_append]; rfl
  rw [LenChk.ofWord, hexp, hhi, hlo, LenMode.ofBits_code]

/-! #### A request with the engine idle -/

section
variable {s : State} (hb : s.busy = false)
include hb

theorem writeTxHdr_idle (dest len method : Byte) : writeTxHdr dest len method s = { s with txHdr := ⟨dest, len, method⟩ } := by
  rw [writeTxHdr, Reg.write_idle _ _ _ hb, Reg.store, TxHdr.ofWord_toWord]

theorem writeOperands_idle (dest len method : Byte) (plan : ReplyPlan) :
    writeOperands dest len method plan s =
      { s with txHdr := ⟨dest, len, method⟩, rxSrcExpect := dest, lenchk := ⟨plan.expLen, plan.lenMode⟩ } := by
  simp only [writeOperands, writeTxHdr_idle hb, Reg.write_idle, hb, Reg.store, byte0_wordOfByte, LenChk.ofWord_toWord]

variable (ht : s.timeoutMs ≠ 0#32)
include ht

/-- R90, R120: an accepted SEND waits in its first window, with the registers' frame on WIRE. -/
theorem issueSend_idle : issueSend s = s.sending s.txFrame := by
  have hlen : s.txFrame.payload.length = s.txHdr.len.toNat := s.length_txPayload
  rw [issueSend, admitCommand_idle _ _ _ hb, runSend, State.openPhase_wait .txHdr _ (s.accept .send).latchWire (Nat.succ_ne_zero 3) ht, State.sending, hlen]
  rfl

/-- R70: the request's SEND, and the exchange noted with it. -/
theorem noteSending_issueSend_idle (recvOp : Option Op) :
    noteSending recvOp (issueSend s) = State.sending { s with driver := s.driver.afterRequest recvOp } s.txFrame := by
  rw [issueSend_idle hb ht, noteSending_eq]
  rfl

/-- R67: a request of which no reply is planned writes TX_HDR alone (assumption 8). -/
theorem sendHeader_idle (dest len method : Byte) :
    noteSending none (issueSend (writeTxHdr dest len method s)) =
      { s with
        txHdr := ⟨dest, len, method⟩
        driver := s.driver.afterRequest none }.sending ⟨dest, s.ownAddr, method, s.mem.readElems 0x400 len.toNat⟩ := by
  rw [writeTxHdr_idle hb, noteSending_issueSend_idle]
  · rfl
  · exact hb
  · exact ht

/-- R70: a request with a planned reply. -/
theorem request_idle (dest len method : Byte) (plan : ReplyPlan) :
    request dest len method plan s =
      { s with
        txHdr := ⟨dest, len, method⟩
        rxSrcExpect := dest
        lenchk := ⟨plan.expLen, plan.lenMode⟩
        driver := s.driver.afterRequest (some plan.recvOp) }.sending ⟨dest, s.ownAddr, method, s.mem.readElems 0x400 len.toNat⟩ := by
  rw [request, writeOperands_idle hb, noteSending_issueSend_idle]
  · rfl
  · exact hb
  · exact ht

end

/-- Settles O26: each request is XCHG's operand writes and SEND, with its own method code and reply plan. -/
theorem requestsStartTheirExchange : Obligations.RequestsStartTheirExchange := by
  intro s dest len src hb ht
  have hgo (method : Byte) (plan : ReplyPlan) :=
    congrArg (Host.Outcome.next (φ := Fault) (ρ := Refusal)) (request_idle hb ht dest len method plan)
  exact ⟨hgo 4#8 versionPlan, hgo 227#8 statusPlan, hgo 228#8 statusPlan, hgo 229#8 creditPlan, hgo 230#8 statusPlan, hgo 231#8 statusPlan⟩

/-! #### The request's word on the wire -/

/-- R61, R62: the image of a frame has its header, payload and one trailing byte in both modes. -/
theorem Frame.length_image (mode : CkMode) (init : BitVec 16) (fr : Frame) : (fr.image mode init).length = 5 + fr.payload.length := by
  cases mode <;> simp only [Frame.image, Frame.header, List.length_append, List.length_cons, List.length_nil] <;> omega

theorem State.len_txFrame (s : State) : s.txFrame.len = s.txHdr.len := by
  simp [State.txFrame, Frame.len]

/-- R91: in both modes wire bytes 0, 1 and 3 are TX_HDR's. -/
theorem State.buildWire_header (s : State) :
    s.buildWire.getD 0 0#8 = s.txHdr.dest ∧ s.buildWire.getD 1 0#8 = s.txHdr.len ∧ s.buildWire.getD 3 0#8 = s.txHdr.method := by
  rw [State.buildWire, ← s.len_txFrame]
  cases s.ctrl.ckMode <;> exact ⟨rfl, rfl, rfl⟩

/-- R91: in Simple mode wire byte 2 is the host's own address. -/
theorem State.buildWire_simple_byte2 {s : State} (h : s.ctrl.ckMode = .simple) : s.buildWire.getD 2 0#8 = s.ownAddr := by
  rw [State.buildWire, h]
  rfl

theorem State.length_buildWire (s : State) : s.buildWire.length = 5 + s.txHdr.len.toNat :=
  (Frame.length_image ..).trans (congrArg _ s.length_txPayload)

/-- R67, R70: a request with the engine idle leaves SEND accepted over registers whose header is the request's word, the source byte aside. -/
theorem exec_request_idle {i : Instr} {s : State} (hi : i.isRequest = true) (hb : s.busy = false) (ht : s.timeoutMs ≠ 0#32) :
    ∃ (u : State) (src : Byte), exec i s = .next (u.sending u.txFrame) ∧ encode i = requestWord u.txHdr.dest u.txHdr.len src u.txHdr.method ∧
      u.ctrl = s.ctrl ∧ u.ownAddr = s.ownAddr := by
  cases i with
  | nop | send | recv | recvStatus | recvData => cases hi
  | mReset dest len src => exact ⟨_, src, congrArg _ (sendHeader_idle hb ht dest len _), rfl, rfl, rfl⟩
  | mCommsRev dest len src | mRdMinh dest len src | mModMinh dest len src | mRdCredit dest len src | mRdInh dest len src | mModInh dest len src =>
    exact ⟨_, src, congrArg _ (request_idle hb ht dest len _ _), rfl, rfl, rfl⟩

/-- Settles O28: WIRE is the image of the registers' frame, whose header is the request's word. -/
theorem requestWordIsTheHeaderOnTheWire : Obligations.RequestWordIsTheHeaderOnTheWire := by
  intro i s t hi hb ht hexec
  obtain ⟨u, src, hnext, hword, hctrl, hown⟩ := exec_request_idle hi hb ht
  obtain rfl : u.sending u.txFrame = t := by simpa [hnext] using hexec
  have hwire : (u.sending u.txFrame).wire = u.buildWire := rfl
  obtain ⟨hdest, hlen, hmethod⟩ := u.buildWire_header
  have hdestLt := u.txHdr.dest.isLt
  have hlenLt := u.txHdr.len.isLt
  have hsrcLt := src.isLt
  rw [hword, toNat_requestWord, hwire, hdest, hlen, hmethod, u.length_buildWire]
  refine ⟨by omega, by omega, rfl, by omega, fun hsimple => ?_, by omega⟩
  rw [← hown]
  exact State.buildWire_simple_byte2 (by rw [hctrl, hsimple])

end Sys2Proof.Machine
end

section
/-!
PROOFS. A turn of the software in an exchange (R70, R122): the poll of DONE, and the receive command it issues (R100, R101, R113).
-/

namespace Sys2Proof.Machine

/-! #### A receive command with the engine idle -/

/-- R100, R120: acceptance, the latches and the beginning of RX_HDR. -/
theorem State.beginPhase_accept_recv {o : Op} (ho : o.isRecv = true) (s : State) : (s.accept o).latchMode.beginPhase .rxHdr = s.receiving o := by
  simp only [State.accept, ho, if_true]
  rfl

/-- R100: unless LEN_MODE = 3 an accepted receive command opens RX_HDR. -/
theorem issueRecv_opens {s : State} (o : Op) (hb : s.busy = false) (hm : s.lenchk.lenMode ≠ .reserved) :
    issueRecv o s = (s.accept o).latchMode.openPhase .rxHdr afterRxHdr := by
  rw [issueRecv, admitCommand_idle _ _ _ hb]
  exact if_neg hm

section
variable {s : State} {o : Op} (ho : o.isRecv = true) (hb : s.busy = false)
include ho hb

/-- R101: with LEN_MODE = 3 the command fails before any phase begins, so RX_STG is as it was. -/
theorem issueRecv_reserved (hm : s.lenchk.lenMode = .reserved) :
    issueRecv o s = State.completed { s.receiving o with rxStg := s.rxStg } .cfg .idle 0#9 := by
  have hfail : issueRecv o s = (s.accept o).latchMode.fail .cfg .idle 0#9 := by
    rw [issueRecv, admitCommand_idle _ _ _ hb]
    exact if_pos hm
  simp only [hfail, State.accept, ho, if_true]
  rfl

variable (hm : s.lenchk.lenMode ≠ .reserved)
include hm

/-- R100: the command waits for the first byte of the header. -/
theorem issueRecv_waits (ht : s.timeoutMs ≠ 0#32) : issueRecv o s = s.receiving o := by
  rw [issueRecv_opens o hb hm, State.openPhase_wait .rxHdr _ (s.accept o).latchMode (Nat.succ_ne_zero 3) ht, State.beginPhase_accept_recv ho]

/-- R113: with TIMEOUT_MS = 0 the header's window is over when it opens. -/
theorem issueRecv_zero_timeout (ht : s.timeoutMs = 0#32) : issueRecv o s = (s.receiving o).completed .rdTimeout .rxHdr 0#9 := by
  rw [issueRecv_opens o hb hm, State.openPhase_zero_timeout .rxHdr _ (s.accept o).latchMode (Nat.succ_ne_zero 3) ht, State.beginPhase_accept_recv ho]
  rfl

end

/-! #### The turns of an exchange -/

theorem Exchange.inProgress_iff {x : Exchange} : x.inProgress = true ↔ (∃ next, x = .sending next) ∨ x = .receiving := by
  cases x <;> simp [Exchange.inProgress]

section
variable {s : State}

/-- R122: the poll of DONE. -/
theorem softwareTurn_waits (hx : s.driver.exch.inProgress = true) (hd : s.done = false) : softwareTurn s = s := by
  obtain ⟨next, hx⟩ | hx := Exchange.inProgress_iff.mp hx <;> simp [softwareTurn, hx, hd]

/-- R146: an error of SEND or of the receive command is the exchange's. -/
theorem softwareTurn_fails (hx : s.driver.exch.inProgress = true) (hd : s.done = true) (he : s.err ≠ .none) :
    softwareTurn s = setExchange (.failed s.err) s := by
  obtain ⟨next, hx⟩ | hx := Exchange.inProgress_iff.mp hx <;> simp [softwareTurn, hx, hd, he]

variable (hd : s.done = true) (he : s.err = .none)
include hd he

/-- R70: after SEND the planned receive command. -/
theorem softwareTurn_receives {o : Op} (hx : s.driver.exch = .sending (some o)) : softwareTurn s = issueRecv o (setExchange .receiving s) := by
  simp [softwareTurn, hx, hd, he]

/-- R70: the exchange's last command has succeeded. -/
theorem softwareTurn_succeeds (hx : s.driver.exch = .sending none ∨ s.driver.exch = .receiving) : softwareTurn s = setExchange .succeeded s := by
  obtain hx | hx := hx <;> simp [softwareTurn, hx, hd, he]

end

/-- Settles O54: the cases of the poll, and after SEND those of the receive command. -/
theorem exchangeWaitsThenReceives : Obligations.ExchangeWaitsThenReceives := by
  intro s rest hagenda
  have hstep : step s = .next (softwareTurn { s with agenda := rest }) := step_cons s _ rest hagenda
  rw [hstep]
  refine ⟨fun hx hd => congrArg _ (softwareTurn_waits hx hd), fun hx hd he => congrArg _ (softwareTurn_fails hx hd he), fun o hx ho hd he hb => ?_,
    fun hx hd he => congrArg _ (softwareTurn_succeeds hd he hx)⟩
  rw [softwareTurn_receives (s := { s with agenda := rest }) hd he hx]
  exact ⟨fun ht hm => congrArg _ (issueRecv_waits ho hb hm ht), fun hm => congrArg _ (issueRecv_reserved ho hb hm),
    fun ht hm => congrArg _ (issueRecv_zero_timeout ho hb hm ht)⟩

end Sys2Proof.Machine
end

section
/-!
PROOFS. The Simple checksum (R80, R81): the sum of a frame's bytes modulo 256.
-/

namespace Sys2Proof.Machine

/-! #### The sum of the bytes -/

theorem byteSum_eq_sum (s : List Byte) : byteSum s = (s.map BitVec.toNat).sum := by
  induction s with
  | nil => rfl
  | cons b bs ih => simp [byteSum, ih]

@[simp] theorem byteSum_append (s s' : List Byte) : byteSum (s ++ s') = byteSum s + byteSum s' := by
  simp [byteSum_eq_sum]

theorem byteSum_perm {s s' : List Byte} (h : s.Perm s') : byteSum s = byteSum s' := by
  simpa only [byteSum_eq_sum] using (h.map BitVec.toNat).sum_nat

/-- A replaced byte leaves the sum and the new byte enters it. -/
theorem byteSum_set {f : List Byte} {i : Nat} (hi : i < f.length) (b : Byte) :
    byteSum (f.set i b) + (f.getD i 0#8).toNat = byteSum f + b.toNat := by
  induction f generalizing i with
  | nil => cases hi
  | cons x xs ih =>
    cases i with
    | zero =>
      simp only [List.set_cons_zero, byteSum, List.getD_cons_zero]
      omega
    | succ i =>
      have hxs := ih (Nat.lt_of_succ_lt_succ hi)
      simp only [List.set_cons_succ, byteSum, List.getD_cons_succ]
      omega

/-! #### The check byte and the validation -/

theorem toNat_ckSimple (s : List Byte) : (ckSimple s).toNat = (256 - byteSum s % 256) % 256 := by
  simp [ckSimple]

theorem ckSimple_perm {s s' : List Byte} (h : s.Perm s') : ckSimple s = ckSimple s' := by
  rw [ckSimple, ckSimple, byteSum_perm h]

/-- R80: the check byte is the only one that makes the sum a multiple of 256. -/
theorem byteSum_add_mod_eq_zero_iff (s : List Byte) (t : Byte) : (byteSum s + t.toNat) % 256 = 0 ↔ ckSimple s = t := by
  have ht := t.isLt
  rw [← BitVec.toNat_inj, toNat_ckSimple]
  omega

/-- Settles O6: the check byte is the one that makes the sum a multiple of 256. -/
theorem simpleCheckByteMakesTheSumZero : Obligations.SimpleCheckByteMakesTheSumZero :=
  ⟨fun s => (byteSum_add_mod_eq_zero_iff s _).mpr rfl, toNat_ckSimple, fun s hs => (byteSum_add_mod_eq_zero_iff s 0#8).mp hs,
    fun _ _ => ckSimple_perm, by decide, by decide⟩

theorem okSimple_iff (f : List Byte) : okSimple f = true ↔ byteSum f % 256 = 0 := by
  simp [okSimple]

/-- R81: over a body and its trailing byte. -/
theorem okSimple_append_iff (body : List Byte) (t : Byte) : okSimple (body ++ [t]) = true ↔ ckSimple body = t := by
  rw [okSimple_iff, byteSum_append]
  exact byteSum_add_mod_eq_zero_iff body t

/-- R81: two bytes congruent modulo 256 are equal, so one changed byte moves the sum off 0. -/
theorem okSimple_set_eq_false {f : List Byte} {i : Nat} {b : Byte} (hi : i < f.length) (hf : okSimple f = true) (hb : b ≠ f.getD i 0#8) :
    okSimple (f.set i b) = false := by
  rw [← Bool.not_eq_true, okSimple_iff]
  rw [okSimple_iff] at hf
  intro hset
  have hsum := byteSum_set hi b
  have hnew := b.isLt
  have hold := (f.getD i 0#8).isLt
  exact hb (BitVec.eq_of_toNat_eq (by omega))

/-- R81: what is added to one byte and taken from another cancels. -/
theorem okSimple_set_set {f : List Byte} {i j : Nat} (d : Byte) (hi : i < f.length) (hj : j < f.length) (hij : i ≠ j)
    (hf : okSimple f = true) : okSimple ((f.set i (f.getD i 0#8 + d)).set j (f.getD j 0#8 - d)) = true := by
  rw [okSimple_iff] at hf ⊢
  have hgetD : (f.set i (f.getD i 0#8 + d)).getD j 0#8 = f.getD j 0#8 := by
    rw [List.getD_eq_getElem?_getD, List.getElem?_set_ne hij, ← List.getD_eq_getElem?_getD]
  have hfirst := byteSum_set hi (f.getD i 0#8 + d)
  have hsecond := byteSum_set (f := f.set i (f.getD i 0#8 + d)) (by rwa [List.length_set]) (f.getD j 0#8 - d)
  rw [hgetD, BitVec.toNat_sub] at hsecond
  rw [BitVec.toNat_add] at hfirst
  omega

/-- Settles O7: each change moves the sum by the new byte less the old one. -/
theorem simpleValidationIsTheZeroSum : Obligations.SimpleValidationIsTheZeroSum :=
  ⟨okSimple_iff, okSimple_append_iff, fun _ _ _ => okSimple_set_eq_false, fun _ _ _ d => okSimple_set_set d, by decide, by decide⟩

end Sys2Proof.Machine
end

section
/-!
PROOFS. The CRC (R82, R83): it goes byte by byte, its two halves determine it, and every step of it is injective, in the register and in the byte.
-/

namespace Sys2Proof.Machine

/-! #### One shift, one byte, a sequence -/

theorem toNat_crcShift (c : BitVec 16) :
    (crcShift c).toNat = if 0x8000 ≤ c.toNat then ((c.toNat * 2) % 65536) ^^^ 0x1021 else c.toNat * 2 := by
  have htop : c.getLsbD 15 = true ↔ 0x8000 ≤ c.toNat := by
    rw [← BitVec.msb_eq_getLsbD_last (w := 16), BitVec.msb_eq_decide, decide_eq_true_iff]
  have hdouble : (c <<< 1).toNat = (c.toNat * 2) % 65536 := by
    rw [BitVec.toNat_shiftLeft, Nat.shiftLeft_eq]
  by_cases h : 0x8000 ≤ c.toNat
  · rw [crcShift, if_pos (htop.mpr h), if_pos h, BitVec.toNat_xor, hdouble]
    rfl
  · rw [crcShift, if_neg (mt htop.mp h), if_neg h, hdouble]
    omega

theorem crcByte_eq_crcShifts (c : BitVec 16) (b : Byte) : crcByte c b = crcShifts 8 (c ^^^ BitVec.ofNat 16 (b.toNat * 256)) := by
  have hhigh : b.setWidth 16 <<< 8 = BitVec.ofNat 16 (b.toNat * 256) := by
    apply BitVec.eq_of_toNat_eq
    simp [Nat.shiftLeft_eq]
  rw [crcByte, hhigh]

theorem crc16_eq_foldl (init : BitVec 16) (s : List Byte) : crc16 init s = s.foldl crcByte init := by
  induction s generalizing init with
  | nil => rfl
  | cons b bs ih => exact ih (crcByte init b)

@[simp] theorem crc16_append (init : BitVec 16) (s s' : List Byte) : crc16 init (s ++ s') = crc16 (crc16 init s) s' := by
  simp only [crc16_eq_foldl, List.foldl_append]

/-- R82: with CRC_INIT = 0, zero bytes leave the register at 0. -/
theorem crc16_replicate_zero (n : Nat) : crc16 0#16 (List.replicate n 0#8) = 0#16 := by
  have hzero : crcByte 0#16 0#8 = 0#16 := by decide
  induction n with
  | zero => rfl
  | succ n ih => rw [List.replicate_succ, crc16, hzero, ih]

/-- Settles O8: the byte step and the shift in numbers, the fold over an appended byte, and the spec's check values. -/
theorem crcIsComputedByteByByte : Obligations.CrcIsComputedByteByByte :=
  ⟨fun c b => congrArg BitVec.toNat (crcByte_eq_crcShifts c b), toNat_crcShift, fun init s b => ⟨rfl, crc16_append init s [b]⟩, crc16_replicate_zero,
    by decide +kernel, by decide +kernel, by decide, by decide, by decide, by decide⟩

/-! #### The two halves -/

theorem toNat_crcWire2 (c : BitVec 16) : (crcWire2 c).toNat = c.toNat % 256 := by
  simp [crcWire2]

theorem toNat_crcTrail (c : BitVec 16) : (crcTrail c).toNat = c.toNat / 256 := by
  have hc := c.isLt
  rw [crcTrail, BitVec.extractLsb'_toNat, Nat.shiftRight_eq_div_pow]
  omega

/-- Settles O9: the quotient and the remainder by 256. -/
theorem crcSplitsIntoLowAndHighByte : Obligations.CrcSplitsIntoLowAndHighByte :=
  ⟨fun c => ⟨toNat_crcWire2 c, toNat_crcTrail c⟩, by decide, by decide⟩

/-- R83: the two halves determine the CRC. -/
theorem crc_eq_of_halves {c c' : BitVec 16} (hwire2 : crcWire2 c = crcWire2 c') (htrail : crcTrail c = crcTrail c') : c = c' := by
  rw [← BitVec.toNat_inj, toNat_crcWire2, toNat_crcWire2] at hwire2
  rw [← BitVec.toNat_inj, toNat_crcTrail, toNat_crcTrail] at htrail
  exact BitVec.eq_of_toNat_eq (by omega)

/-! #### No step loses information -/

theorem crcShift_eq_xor (c : BitVec 16) : crcShift c = (c <<< 1) ^^^ (if c.getLsbD 15 then Config.crcPoly else 0#16) := by
  rw [crcShift]
  split
  · rfl
  · exact BitVec.xor_zero.symm

/-- The polynomial's bit 0 is 1, so the bit shifted out at the top comes back at the bottom. -/
theorem getLsbD_zero_crcShift (c : BitVec 16) : (crcShift c).getLsbD 0 = c.getLsbD 15 := by
  have hlow : (c <<< 1).getLsbD 0 = false := by simp
  rw [crcShift_eq_xor, BitVec.getLsbD_xor, hlow]
  cases c.getLsbD 15 <;> rfl

theorem crcShift_injective : Function.Injective crcShift := by
  intro c c' h
  have htop : c.getLsbD 15 = c'.getLsbD 15 := by
    rw [← getLsbD_zero_crcShift, h, getLsbD_zero_crcShift]
  rw [crcShift_eq_xor, crcShift_eq_xor, htop, BitVec.xor_left_inj] at h
  apply BitVec.eq_of_getLsbD_eq
  intro i hi
  obtain rfl | hlow : i = 15 ∨ i + 1 < 16 := by omega
  · exact htop
  · simpa [hlow, hi] using congrArg (BitVec.getLsbD · (i + 1)) h

theorem crcShifts_injective (n : Nat) : Function.Injective (crcShifts n) := by
  induction n with
  | zero => exact fun _ _ h => h
  | succ n ih => exact ih.comp crcShift_injective

theorem crcByte_left_injective (b : Byte) : Function.Injective (crcByte · b) :=
  fun _ _ h => (BitVec.xor_left_inj _).mp (crcShifts_injective 8 h)

theorem crcByte_right_injective (c : BitVec 16) : Function.Injective (crcByte c) := by
  intro b b' h
  simp only [crcByte_eq_crcShifts] at h
  have hhigh := (BitVec.xor_right_inj _).mp (crcShifts_injective 8 h)
  rw [← BitVec.toNat_inj, BitVec.toNat_ofNat, BitVec.toNat_ofNat] at hhigh
  exact BitVec.eq_of_toNat_eq (by omega)

theorem crc16_init_injective (s : List Byte) : Function.Injective (crc16 · s) := by
  induction s with
  | nil => exact fun _ _ h => h
  | cons b bs ih => exact ih.comp (crcByte_left_injective b)

/-- Two sequences that differ in one byte have different CRCs. -/
theorem crc16_set_inj {init : BitVec 16} {s : List Byte} {i : Nat} (hi : i < s.length) {b b' : Byte} :
    crc16 init (s.set i b) = crc16 init (s.set i b') ↔ b = b' := by
  rw [List.set_eq_take_append_cons_drop, List.set_eq_take_append_cons_drop, if_pos hi, if_pos hi, crc16_append, crc16_append, crc16, crc16]
  rw [(crc16_init_injective _).eq_iff, (crcByte_right_injective _).eq_iff]

/-- A changed byte changes the CRC. -/
theorem crc16_set_eq_iff {init : BitVec 16} {s : List Byte} {i : Nat} (hi : i < s.length) {b : Byte} :
    crc16 init (s.set i b) = crc16 init s ↔ b = s[i] := by
  rw [← crc16_set_inj hi, List.set_getElem_self]

end Sys2Proof.Machine
end

section
/-!
PROOFS. The validation of a received frame (R81, R84): what a changed byte does, and that an encoded frame validates (R86, R87).
-/

namespace Sys2Proof.Machine

/-! #### The bytes that the CRC runs over -/

/-- R84: the received frame without its trailing byte and with the expected source in the source position. -/
def ccittBody (e : Byte) (f : List Byte) : List Byte := f.dropLast.set 2 e

theorem ccittBody_set (e : Byte) (f : List Byte) (i : Nat) (b : Byte) : ccittBody e (f.set i b) = (f.dropLast.set i b).set 2 e := by
  rw [ccittBody, List.dropLast_eq_take, List.take_set, List.length_set, ← List.dropLast_eq_take]

theorem ccittBody_set_two (e : Byte) (f : List Byte) (b : Byte) : ccittBody e (f.set 2 b) = ccittBody e f := by
  rw [ccittBody_set, List.set_set, ccittBody]

theorem ccittBody_set_last (e : Byte) (f : List Byte) (b : Byte) : ccittBody e (f.set (f.length - 1) b) = ccittBody e f := by
  rw [ccittBody_set, List.set_eq_of_length_le (by rw [List.length_dropLast] : f.dropLast.length ≤ f.length - 1), ccittBody]

theorem ccittBody_wireFrame (e d n x h t : Byte) (p : List Byte) : ccittBody e (wireFrame d n x h p t) = [d, n, e, h] ++ p := by
  rw [ccittBody, wireFrame, List.dropLast_concat]
  rfl

/-- R60: a frame of at least five bytes has a header, a payload and a trailing byte. -/
theorem eq_wireFrame {f : List Byte} (hf : 5 ≤ f.length) : ∃ d n x h p t, f = wireFrame d n x h p t := by
  match f, hf with
  | d :: n :: x :: h :: a :: r, _ =>
    refine ⟨d, n, x, h, (a :: r).dropLast, (a :: r).getLast (List.cons_ne_nil a r), ?_⟩
    rw [wireFrame, List.append_assoc, List.dropLast_append_getLast]
    rfl

/-- R84: both halves of the CRC against the frame's own bytes. -/
theorem okCcitt_wireFrame_iff (init : BitVec 16) (d n x h : Byte) (p : List Byte) (t e : Byte) :
    okCcitt init (wireFrame d n x h p t) e = true ↔
      crcWire2 (crc16 init ([d, n, e, h] ++ p)) = x ∧ crcTrail (crc16 init ([d, n, e, h] ++ p)) = t := by
  simp [okCcitt, wireFrame]

/-- R84, said of the frame's bytes by position. -/
theorem okCcitt_iff {init : BitVec 16} {f : List Byte} {e : Byte} (hf : 5 ≤ f.length) :
    okCcitt init f e = true ↔
      crcWire2 (crc16 init (ccittBody e f)) = f.getD 2 0#8 ∧ crcTrail (crc16 init (ccittBody e f)) = f.getD (f.length - 1) 0#8 := by
  obtain ⟨d, n, x, h, p, t, rfl⟩ := eq_wireFrame hf
  have hlast : (wireFrame d n x h p t).length - 1 = 4 + p.length := by
    rw [wireFrame, List.length_append, List.length_append]
    rfl
  rw [okCcitt_wireFrame_iff, ccittBody_wireFrame, hlast, getD_wireFrame_trail]
  rfl

/-! #### What validation detects -/

section
variable {init : BitVec 16} {f : List Byte} {e : Byte} (hf : 5 ≤ f.length) (hok : okCcitt init f e = true)
include hf hok

/-- R84: a frame is valid for one expected source only. -/
theorem okCcitt_other_source {e' : Byte} (he : e' ≠ e) : okCcitt init f e' = false := by
  rw [← Bool.not_eq_true, okCcitt_iff hf]
  obtain ⟨hwire2, htrail⟩ := (okCcitt_iff hf).mp hok
  rintro ⟨hwire2', htrail'⟩
  have hcrc := crc_eq_of_halves (hwire2'.trans hwire2.symm) (htrail'.trans htrail.symm)
  exact he ((crc16_set_inj (by rw [List.length_dropLast]; omega)).mp hcrc)

/-- R84: a changed byte stands in one of the two compared positions, or it changes the CRC. -/
theorem okCcitt_set_eq_false {i : Nat} {b : Byte} (hi : i < f.length) (hb : b ≠ f.getD i 0#8) : okCcitt init (f.set i b) e = false := by
  rw [← Bool.not_eq_true, okCcitt_iff (by rwa [List.length_set]), List.length_set]
  obtain ⟨hwire2, htrail⟩ := (okCcitt_iff hf).mp hok
  rintro ⟨hwire2', htrail'⟩
  have hsame : (f.set i b).getD i 0#8 = b := by simp [hi]
  have hother {j : Nat} (hij : i ≠ j) : (f.set i b).getD j 0#8 = f.getD j 0#8 := by simp [hij]
  by_cases htwo : i = 2
  · subst htwo
    rw [ccittBody_set_two, hwire2, hsame] at hwire2'
    exact hb hwire2'.symm
  by_cases hlast : i = f.length - 1
  · subst hlast
    rw [ccittBody_set_last, htrail, hsame] at htrail'
    exact hb htrail'.symm
  rw [hother htwo, ← hwire2] at hwire2'
  rw [hother hlast, ← htrail] at htrail'
  have hcrc := crc_eq_of_halves hwire2' htrail'
  have hbody : i < (ccittBody e f).length := by
    rw [ccittBody, List.length_set, List.length_dropLast]
    omega
  have hold : (ccittBody e f)[i] = f.getD i 0#8 := by simp [ccittBody, Ne.symm htwo, hi]
  rw [ccittBody_set, List.set_comm _ _ htwo, ← ccittBody, crc16_set_eq_iff hbody, hold] at hcrc
  exact hb hcrc

end

/-- Settles O10: the two compared positions, and the injectivity of the CRC in each of its bytes. -/
theorem ccittValidationDetectsEveryChangedByte : Obligations.CcittValidationDetectsEveryChangedByte :=
  ⟨okCcitt_wireFrame_iff, fun _ _ _ _ hf hok => okCcitt_other_source hf hok, fun _ _ _ _ _ hf hi hok => okCcitt_set_eq_false hf hok hi,
    by decide +kernel, by decide +kernel, by decide +kernel⟩

/-- Settles O12: the trailing byte is one of the frame's bytes. -/
theorem corruptedTrailingByteIsInvalid : Obligations.CorruptedTrailingByteIsInvalid := by
  intro mode init e f t hf hok ht
  have hi : f.length - 1 < f.length := by omega
  cases mode with
  | simple => exact okSimple_set_eq_false hi hok ht
  | ccitt => exact okCcitt_set_eq_false hf hok hi ht

/-! #### Encoded frames -/

theorem Frame.toNat_len {fr : Frame} (hp : fr.payload.length ≤ 255) : fr.len.toNat = fr.payload.length := by
  simp only [Frame.len, BitVec.toNat_ofNat]
  omega

/-- R61, R62: the image has the form of a wire frame in both modes. -/
theorem Frame.image_eq_wireFrame (mode : CkMode) (init : BitVec 16) (fr : Frame) :
    ∃ x t, fr.image mode init = wireFrame fr.dest fr.len x fr.hdr fr.payload t := by
  cases mode <;> exact ⟨_, _, rfl⟩

theorem okSimple_image (init : BitVec 16) (fr : Frame) : okSimple (fr.image .simple init) = true :=
  (okSimple_append_iff _ _).mpr rfl

theorem okCcitt_image (init : BitVec 16) (fr : Frame) : okCcitt init (fr.image .ccitt init) fr.src = true :=
  (okCcitt_wireFrame_iff init fr.dest fr.len _ fr.hdr fr.payload _ fr.src).mpr ⟨rfl, rfl⟩

theorem take_drop_wireFrame (d n x h t : Byte) (p : List Byte) : ((wireFrame d n x h p t).drop 4).take p.length = p :=
  List.take_left

/-- Settles O11: both images are wire frames whose check bytes are the ones validation recomputes. -/
theorem encodedFramesRoundTrip : Obligations.EncodedFramesRoundTrip := by
  intro init dest src hdr p hp
  refine ⟨okSimple_image init _, okCcitt_image init ⟨dest, src, hdr, p⟩, fun mode => ⟨Frame.length_image mode init _, ?_⟩⟩
  obtain ⟨x, t, himage⟩ := Frame.image_eq_wireFrame mode init ⟨dest, src, hdr, p⟩
  rw [himage]
  exact ⟨rfl, Frame.toNat_len (fr := ⟨dest, src, hdr, p⟩) hp, rfl, take_drop_wireFrame ..⟩

end Sys2Proof.Machine
end

section
/-!
PROOFS. What the five commands do at once (R90, R95, R100, R113, R124): an accepted SEND's next state, and the frame of each command.
-/

namespace Sys2Proof.Machine

/-! #### SEND with the engine idle -/

/-- Settles O20: acceptance latches the image of the registers' frame and offers its first byte. -/
theorem sendStartsTransmitting : Obligations.SendStartsTransmitting := fun s hb ht =>
  ⟨congrArg Host.Outcome.next (issueSend_idle hb ht), rfl, s.buildWire_header.1⟩

section
variable {s : State} (hb : s.busy = false) (ht : s.timeoutMs = 0#32)
include hb ht

/-- R95: with TIMEOUT_MS = 0 the header's window is over when it opens. -/
theorem issueSend_zero_timeout : issueSend s = (s.sending s.txFrame).completed .wrTimeout .txHdr 0#9 := by
  have hlen : s.txFrame.payload.length = s.txHdr.len.toNat := s.length_txPayload
  rw [issueSend, admitCommand_idle _ _ _ hb, runSend,
    State.openPhase_zero_timeout .txHdr _ (s.accept .send).latchWire (Nat.succ_ne_zero 3) ht, State.sending, hlen]
  rfl

theorem noteSending_issueSend_zero_timeout (recvOp : Option Op) :
    noteSending recvOp (issueSend s) =
      (State.sending { s with driver := s.driver.afterRequest recvOp } s.txFrame).completed .wrTimeout .txHdr 0#9 := by
  rw [issueSend_zero_timeout hb ht, noteSending_eq]
  rfl

theorem sendHeader_zero_timeout (dest len method : Byte) :
    noteSending none (issueSend (writeTxHdr dest len method s)) =
      ({ s with
        txHdr := ⟨dest, len, method⟩
        driver := s.driver.afterRequest none }.sending ⟨dest, s.ownAddr, method, s.mem.readElems 0x400 len.toNat⟩).completed
          .wrTimeout .txHdr 0#9 := by
  rw [writeTxHdr_idle hb, noteSending_issueSend_zero_timeout (s := { s with txHdr := ⟨dest, len, method⟩ }) hb ht]
  rfl

theorem request_zero_timeout (dest len method : Byte) (plan : ReplyPlan) :
    request dest len method plan s =
      ({ s with
        txHdr := ⟨dest, len, method⟩
        rxSrcExpect := dest
        lenchk := ⟨plan.expLen, plan.lenMode⟩
        driver := s.driver.afterRequest (some plan.recvOp) }.sending
          ⟨dest, s.ownAddr, method, s.mem.readElems 0x400 len.toNat⟩).completed .wrTimeout .txHdr 0#9 := by
  rw [request, writeOperands_idle hb, noteSending_issueSend_zero_timeout]
  · rfl
  · exact hb
  · exact ht

end

/-- Settles O22: the first window of SEND, of each receive command and of each request's SEND is over when it opens. -/
theorem zeroTimeoutFailsAtAcceptance : Obligations.ZeroTimeoutFailsAtAcceptance := by
  intro s hb ht
  have hrecv {o : Op} (ho : o.isRecv = true) (hm : s.lenchk.lenMode ≠ .reserved) :=
    congrArg (Host.Outcome.next (φ := Fault) (ρ := Refusal)) (issueRecv_zero_timeout ho hb hm ht)
  refine ⟨congrArg _ (issueSend_zero_timeout hb ht), fun hm => ⟨hrecv rfl hm, hrecv rfl hm, hrecv rfl hm⟩, fun dest len src => ?requests⟩
  have hgo (method : Byte) (plan : ReplyPlan) :=
    congrArg (Host.Outcome.next (φ := Fault) (ρ := Refusal)) (request_zero_timeout hb ht dest len method plan)
  exact ⟨hgo 4#8 versionPlan, congrArg _ (sendHeader_zero_timeout hb ht dest len _), hgo 227#8 statusPlan, hgo 228#8 statusPlan,
    hgo 229#8 creditPlan, hgo 230#8 statusPlan, hgo 231#8 statusPlan⟩

/-! #### The frame of the commands -/

/-- All that SEND can do at once: it is dropped, it waits in TX_HDR, or the window of TX_HDR is already over. -/
theorem issueSend_cases (s : State) :
    (s.busy = true ∧ issueSend s = s.setCmdErr) ∨
    (s.busy = false ∧ (issueSend s = s.sending s.txFrame ∨ issueSend s = (s.sending s.txFrame).completed .wrTimeout .txHdr 0#9)) := by
  cases hb : s.busy with
  | true => exact .inl ⟨rfl, admitCommand_busy _ _ _ hb⟩
  | false =>
    refine .inr ⟨rfl, ?_⟩
    by_cases ht : s.timeoutMs = 0#32
    · exact .inr (issueSend_zero_timeout hb ht)
    · exact .inl (issueSend_idle hb ht)

/-- All that a receive command can do at once: it is dropped, it fails for its length mode, it waits in RX_HDR, or the window of RX_HDR is already over. -/
theorem issueRecv_cases {o : Op} (ho : o.isRecv = true) (s : State) :
    (s.busy = true ∧ issueRecv o s = s.setCmdErr) ∨
    (s.busy = false ∧ (issueRecv o s = State.completed { s.receiving o with rxStg := s.rxStg } .cfg .idle 0#9 ∨
      issueRecv o s = s.receiving o ∨ issueRecv o s = (s.receiving o).completed .rdTimeout .rxHdr 0#9)) := by
  cases hb : s.busy with
  | true => exact .inl ⟨rfl, admitCommand_busy _ _ _ hb⟩
  | false =>
    refine .inr ⟨rfl, ?_⟩
    by_cases hm : s.lenchk.lenMode = .reserved
    · exact .inl (issueRecv_reserved ho hb hm)
    · by_cases ht : s.timeoutMs = 0#32
      · exact .inr (.inr (issueRecv_zero_timeout ho hb hm ht))
      · exact .inr (.inl (issueRecv_waits ho hb hm ht))

/-- What none of the five commands changes beside the operands (R90, R100, R109); CMD_ERR is left by those that are not dropped. -/
structure CommandFrame (s t : State) : Prop extends SameOutside s t where
  driver : t.driver = s.driver
  mem : t.mem = s.mem
  cmdErr : s.busy = false → t.cmdErr = s.cmdErr

theorem CommandFrame.refl (s : State) : CommandFrame s s := ⟨⟨rfl, rfl, rfl, rfl, rfl⟩, rfl, rfl, fun _ => rfl⟩

/-- A dropped command (R121 a). -/
theorem CommandFrame.setCmdErr {s : State} (hb : s.busy = true) : CommandFrame s s.setCmdErr :=
  { CommandFrame.refl s with cmdErr := fun hf => absurd (hb.symm.trans hf) nofun }

theorem CommandFrame.issueSend (s : State) : CommandFrame s (issueSend s) := by
  rcases issueSend_cases s with ⟨hb, heq⟩ | ⟨-, heq | heq⟩ <;> rw [heq]
  · exact .setCmdErr hb
  · exact { CommandFrame.refl s with }
  · exact { CommandFrame.refl s with }

theorem CommandFrame.issueRecv {o : Op} (ho : o.isRecv = true) (s : State) : CommandFrame s (issueRecv o s) := by
  rcases issueRecv_cases ho s with ⟨hb, heq⟩ | ⟨-, heq | heq | heq⟩ <;> rw [heq]
  · exact .setCmdErr hb
  · exact { CommandFrame.refl s with }
  · exact { CommandFrame.refl s with }
  · exact { CommandFrame.refl s with }

theorem CommandFrame.exec {i : Instr} {s t : State} (hi : i.isRequest = false) (ht : exec i s = .next t) : CommandFrame s t := by
  cases i with
  | nop => cases ht; exact .refl s
  | send => cases ht; exact .issueSend s
  | recv | recvStatus | recvData => cases ht; exact .issueRecv rfl s
  | mCommsRev | mReset | mRdMinh | mModMinh | mRdCredit | mRdInh | mModInh => cases hi

/-- R90: SEND leaves all that a receive left, and the echo's staging until ECHO begins. -/
theorem issueSend_received (s : State) : SameFrame s (issueSend s) ∧ (issueSend s).echoStg = s.echoStg := by
  rcases issueSend_cases s with ⟨-, heq⟩ | ⟨-, heq | heq⟩ <;> rw [heq] <;> exact ⟨{ SameFrame.refl s with }, rfl⟩

/-- R100: a receive command leaves all that SEND left. -/
theorem issueRecv_sent {o : Op} (ho : o.isRecv = true) (s : State) :
    (issueRecv o s).txCk = s.txCk ∧ (issueRecv o s).wire = s.wire ∧ (issueRecv o s).echoStg = s.echoStg := by
  rcases issueRecv_cases ho s with ⟨-, heq⟩ | ⟨-, heq | heq | heq⟩ <;> rw [heq] <;> exact ⟨rfl, rfl, rfl⟩

/-- Settles O25: the commands' common frame, and what each kind leaves of the other's. -/
theorem commandsLeaveTheRestAlone : Obligations.CommandsLeaveTheRestAlone := by
  intro i s t hi ht
  have hframe := CommandFrame.exec hi ht
  refine ⟨.exec_command hi ht, hframe.toSameOutside, hframe.driver, fun a => by rw [hframe.mem], hframe.cmdErr, ?nop, ?send, ?recv⟩
  case nop => rintro rfl; cases ht; rfl
  case send =>
    rintro rfl
    cases ht
    obtain ⟨hrecv, hecho⟩ := issueSend_received s
    exact ⟨hrecv.sameReceived, hrecv.rxStg, hrecv.rxModeL, hrecv.rxExpL, hecho⟩
  case recv =>
    rintro (rfl | rfl | rfl) <;> cases ht <;> exact issueRecv_sent rfl s

end Sys2Proof.Machine
end

section
/-!
PROOFS. SEND's whole run (R44, R90, R93, R94): the bytes of each phase go out in order, then the echo, if it is on, comes in and is compared.
-/

namespace Sys2Proof.Machine

/-! #### Runs of several steps -/

theorem steps_succ {s t : State} (h : step s = .next t) (n : Nat) : steps (n + 1) s = steps n t := by
  rw [steps, h]

theorem steps_add {n : Nat} {s t : State} (h : steps n s = .next t) (m : Nat) : steps (n + m) s = steps m t := by
  induction n generalizing s with
  | zero => cases h; rw [Nat.zero_add]
  | succ n ih =>
    rw [Nat.add_right_comm, steps]
    rw [steps] at h
    cases hs : step s with
    | next u => rw [hs] at h; exact ih h
    | fault r => rw [hs] at h; cases h
    | refused r => rw [hs] at h; cases h

/-- A write of 0x01 to CMD (R90), as a turn of the agenda. -/
theorem step_send {s : State} {rest : List Event} (ha : s.agenda = .host (.write .word 0x01C 0x01#32) :: rest) :
    step s = .next (issueSend { s with agenda := rest }) :=
  (step_cons s _ rest ha).trans (handle_command (i := .send) rfl _)

/-! #### The bytes of one phase -/

/-- The phase's last byte (R44, R45). -/
theorem advance_last {s : State} (hlast : s.idx.toNat + 1 = s.toMove) : advance s = phaseDone { s with idx := BitVec.ofNat 9 s.toMove } := by
  have hsucc : s.idx + 1#9 = BitVec.ofNat 9 s.toMove := by rw [← hlast]; bv_omega
  rcases advance_cases s (by omega) with ⟨-, heq⟩ | ⟨hmore, -⟩
  · rw [heq, hsucc]
  · omega

/-- With two bytes or more left, the next one is not the last, and IDX counts it. -/
theorem idx_more {s : State} {n : Nat} (h : s.idx.toNat + (n + 1 + 1) = s.toMove) :
    s.idx.toNat + 1 < s.toMove ∧ (BitVec.ofNat 9 (s.idx.toNat + 1)).toNat = s.idx.toNat + 1 :=
  have hmore : s.idx.toNat + 1 < s.toMove := by omega
  ⟨hmore, toNat_idx_of_lt_toMove hmore⟩

theorem State.txValid_of_phase {s : State} (hw : s.phase.isWrite = true) (hleft : s.idx.toNat < s.toMove) : s.txValid = true := by
  simp [State.txValid, hw, hleft]

/-- The byte offered is the one at the phase's place in WIRE (R90). -/
theorem txData_of_wire {s : State} {sent left : List Byte} {b : Byte} (hwire : s.wire = sent ++ b :: left)
    (hsent : sent.length = s.wireBase + s.idx.toNat) : s.txData = b := by
  simp [State.txData, hwire, ← hsent]

/-- R44: as many TxAccepts as a write phase has bytes left put them on the line in order, and the phase is done. -/
theorem steps_txAccept (bytes : List Byte) {s : State} {sent left : List Byte} {rest : List Event} (hw : s.phase.isWrite = true) (hne : bytes ≠ [])
    (hwire : s.wire = sent ++ bytes ++ left) (hsent : sent.length = s.wireBase + s.idx.toNat) (hmove : s.idx.toNat + bytes.length = s.toMove)
    (ha : s.agenda = List.replicate bytes.length .txAccept ++ rest) :
    steps bytes.length s = .next (phaseDone { s with
      agenda := rest, txLine := s.txLine ++ bytes, idx := BitVec.ofNat 9 s.toMove }) := by
  induction bytes generalizing s sent with
  | nil => exact absurd rfl hne
  | cons b bytes ih =>
    have ha : s.agenda = .txAccept :: (List.replicate bytes.length .txAccept ++ rest) := ha
    have hleft : s.idx.toNat < s.toMove := by rw [← hmove, List.length_cons]; omega
    have hvalid : State.txValid { s with agenda := List.replicate bytes.length .txAccept ++ rest } = true :=
      State.txValid_of_phase hw hleft
    have hdata : s.txData = b := txData_of_wire (sent := sent) (left := bytes ++ left) (by simp [hwire]) hsent
    have hstep := step_cons s .txAccept (List.replicate bytes.length .txAccept ++ rest) ha
    cases bytes with
    | nil =>
      rw [List.length_singleton, steps_succ hstep, txAccept_enabled _ hvalid]
      exact congrArg Host.Outcome.next
        ((advance_last (s := { s with agenda := rest, txLine := s.txLine ++ [s.txData] }) hmove).trans (by rw [hdata]; rfl))
    | cons b' bytes =>
      obtain ⟨hmore, hidx⟩ := idx_more hmove
      rw [List.length_cons, steps_succ (hstep.trans (congrArg Host.Outcome.next (txAccept_more hvalid hmore)))]
      refine (ih (s := { s with
        agenda := List.replicate (b' :: bytes).length .txAccept ++ rest
        txLine := s.txLine ++ [s.txData], idx := BitVec.ofNat 9 (s.idx.toNat + 1) })
        (sent := sent ++ [b]) hw (List.cons_ne_nil _ _) ?wire ?sent ?move rfl).trans ?line
      case wire => simp [hwire]
      case sent => simp [hidx, hsent, State.wireBase, Nat.add_assoc]
      case move => exact (congrArg (· + _) hidx).trans ((Nat.add_right_comm ..).trans hmove)
      case line => rw [hdata, List.append_assoc]; rfl

/-- R48: a phase with nothing to move passes at once. -/
theorem State.openPhase_empty {p : Phase} (next : State → State) {s : State} (h : (s.beginPhase p).toMove = 0) :
    s.openPhase p next = next (s.beginPhase p) := if_pos h

/-! #### The phases of SEND, over a wire image cut at its phases -/

section
variable {s : State} {rest : List Event} {d n x h t : Byte} {p : List Byte} (hwire : s.wire = wireFrame d n x h p t)
include hwire

/-- Phase 1 (R90): the header goes out. -/
theorem steps_txHdr (ha : s.agenda = List.replicate 4 .txAccept ++ rest) :
    steps 4 (s.beginPhase .txHdr) = .next (afterTxHdr { s with agenda := rest, txLine := s.txLine ++ [d, n, x, h] }) :=
  steps_txAccept [d, n, x, h] (s := s.beginPhase .txHdr) (sent := []) (left := p ++ [t]) rfl (List.cons_ne_nil _ _)
    (hwire.trans (List.append_assoc ..)) rfl rfl ha

variable (hp : p.length = s.txHdr.len.toNat) (ht : s.timeoutMs ≠ 0#32)
include hp ht

/-- Phase 2 (R90): an empty payload passes without a wait (R48). -/
theorem steps_txPayload (ha : s.agenda = List.replicate p.length .txAccept ++ rest) :
    steps p.length (afterTxHdr s) = .next (afterTxPayload { s with agenda := rest, txLine := s.txLine ++ p }) := by
  have hmove : (s.beginPhase .txPayload).toMove = p.length := hp.symm
  cases p with
  | nil =>
    obtain rfl : s.agenda = rest := ha
    rw [List.append_nil, afterTxHdr, State.openPhase_empty _ hmove]
    rfl
  | cons b bs =>
    rw [afterTxHdr, State.openPhase_wait _ _ _ (by simp [hmove]) ht]
    exact steps_txAccept (b :: bs) (s := s.beginPhase .txPayload) (sent := [d, n, x, h]) (left := [t]) rfl (List.cons_ne_nil _ _)
      hwire rfl (hmove ▸ Nat.zero_add _) ha

/-- Phase 3 (R90): the trailing byte goes out. -/
theorem steps_txCk (ha : s.agenda = .txAccept :: rest) :
    steps 1 (afterTxPayload s) = .next (afterTxCk { s with agenda := rest, txLine := s.txLine ++ [t] }) := by
  rw [afterTxPayload, State.openPhase_wait .txCk _ s (Nat.succ_ne_zero 0) ht]
  refine (steps_txAccept [t] (s := s.beginPhase .txCk) (sent := [d, n, x, h] ++ p) (left := []) rfl (List.cons_ne_nil _ _)
    (hwire.trans (List.append_nil _).symm) ?_ rfl ha).trans ?_
  · rw [List.length_append, hp]; rfl
  · rfl

end

/-- R90, R94: in 5 + N TxAccepts the three phases put all of WIRE on the line. -/
theorem steps_wire {s : State} {rest : List Event} (hlen : s.wire.length = 5 + s.txHdr.len.toNat) (ht : s.timeoutMs ≠ 0#32)
    (ha : s.agenda = List.replicate (5 + s.txHdr.len.toNat) .txAccept ++ rest) :
    steps (5 + s.txHdr.len.toNat) (s.beginPhase .txHdr) = .next (afterTxCk { s with agenda := rest, txLine := s.txLine ++ s.wire }) := by
  obtain ⟨d, n, x, h, p, t, hwire⟩ := eq_wireFrame (f := s.wire) (by omega)
  have hp : p.length = s.txHdr.len.toNat := by
    rw [hwire] at hlen
    simp only [wireFrame, List.length_append, List.length_cons, List.length_nil] at hlen
    omega
  have hcount : 5 + s.txHdr.len.toNat = 4 + (p.length + 1) := by omega
  have hhdr : steps 4 (s.beginPhase .txHdr) = .next (afterTxHdr { s with
      agenda := List.replicate p.length .txAccept ++ .txAccept :: rest, txLine := s.txLine ++ [d, n, x, h] }) := by
    refine steps_txHdr hwire ?_
    rw [ha, hcount, List.replicate_add, List.replicate_succ' (n := p.length), List.append_assoc, List.append_assoc]
    rfl
  have hpayload := steps_txPayload (rest := .txAccept :: rest)
    (s := { s with agenda := List.replicate p.length .txAccept ++ .txAccept :: rest, txLine := s.txLine ++ [d, n, x, h] }) hwire hp ht rfl
  have hck := steps_txCk (rest := rest)
    (s := { s with agenda := .txAccept :: rest, txLine := s.txLine ++ [d, n, x, h] ++ p }) hwire hp ht rfl
  have hline : s.txLine ++ s.wire = s.txLine ++ [d, n, x, h] ++ p ++ [t] := by simp [hwire, wireFrame]
  rw [hcount, hline]
  exact (steps_add hhdr _).trans ((steps_add hpayload 1).trans hck)

/-! #### Echo off -/

/-- R90, R120: acceptance, WIRE latched, and the beginning of TX_HDR. -/
theorem State.sending_txFrame (s : State) : s.sending s.txFrame = (s.accept .send).latchWire.beginPhase .txHdr := by
  rw [State.sending, show s.txFrame.payload.length = s.txHdr.len.toNat from s.length_txPayload]
  rfl

/-- R90: the command and 5 + N TxAccepts put the image on the line; what follows is the echo or the completion. -/
theorem steps_send {s : State} {rest : List Event} (hb : s.busy = false) (ht : s.timeoutMs ≠ 0#32)
    (ha : s.agenda = .host (.write .word 0x01C 0x01#32) :: (List.replicate (5 + s.txHdr.len.toNat) .txAccept ++ rest)) :
    steps (6 + s.txHdr.len.toNat) s =
      .next (afterTxCk { (s.accept .send).latchWire with agenda := rest, txLine := s.txLine ++ s.buildWire }) := by
  have hstep := step_send ha
  rw [issueSend_idle (s := { s with agenda := List.replicate (5 + s.txHdr.len.toNat) .txAccept ++ rest }) hb ht, State.sending_txFrame] at hstep
  rw [show 6 + s.txHdr.len.toNat = 5 + s.txHdr.len.toNat + 1 by omega, steps_succ hstep]
  exact steps_wire (s := (State.accept .send { s with agenda := List.replicate (5 + s.txHdr.len.toNat) .txAccept ++ rest }).latchWire)
    s.length_buildWire ht rfl

/-- Settles O33: after the image SEND completes at once. -/
theorem sendPutsTheImageOnTheLine : Obligations.SendPutsTheImageOnTheLine := by
  intro s rest hb ht he ha
  have hdone : afterTxCk { (s.accept .send).latchWire with agenda := rest, txLine := s.txLine ++ s.buildWire } =
      State.succeed { (s.accept .send).latchWire with agenda := rest, txLine := s.txLine ++ s.buildWire } := by
    simp [afterTxCk, he]
  refine ⟨_, (steps_send hb ht ha).trans (congrArg _ hdone), rfl, rfl, rfl, rfl, rfl, rfl, rfl, rfl, ?_, ?_⟩
  · exact { SameOperands.refl s with }
  · exact { SameReceived.refl s with }

/-! #### Echo on -/

/-- R93: as many RxBytes as ECHO has bytes left stage them in order, and the echo is compared. -/
theorem steps_rxByte_echo (bytes : List Byte) {s : State} {fifo : List Byte} {rest : List Event} (hecho : s.phase = .echo) (hne : bytes ≠ [])
    (hmove : s.idx.toNat + bytes.length = s.toMove) (hfifo : s.rxFifo = bytes ++ fifo)
    (ha : s.agenda = List.replicate bytes.length .rxByte ++ rest) :
    steps bytes.length s = .next (afterEcho { s with
      agenda := rest, rxFifo := fifo, echoStg := s.echoStg ++ bytes, idx := BitVec.ofNat 9 s.toMove }) := by
  induction bytes generalizing s with
  | nil => exact absurd rfl hne
  | cons b bytes ih =>
    have ha : s.agenda = .rxByte :: (List.replicate bytes.length .rxByte ++ rest) := ha
    have hleft : s.idx.toNat < s.toMove := by rw [← hmove, List.length_cons]; omega
    have hready : s.rxReady = true := by simp [State.rxReady, hecho, Phase.isRead, hleft]
    have hstep : step s = .next (advance { s with
        agenda := List.replicate bytes.length .rxByte ++ rest, rxFifo := bytes ++ fifo, echoStg := s.echoStg ++ [b] }) := by
      rw [step_cons s _ _ ha]
      refine congrArg Host.Outcome.next
        ((rxByte_enabled { s with agenda := List.replicate bytes.length .rxByte ++ rest } b (bytes ++ fifo) hfifo hready).trans ?_)
      simp [State.stage, hecho]
    cases bytes with
    | nil =>
      refine (steps_succ hstep 0).trans (congrArg Host.Outcome.next ?_)
      refine (advance_last (s := { s with agenda := rest, rxFifo := fifo, echoStg := s.echoStg ++ [b] }) hmove).trans ?_
      rw [phaseDone, hecho]
      rfl
    | cons b' bytes =>
      obtain ⟨hmore, hidx⟩ := idx_more hmove
      rw [List.length_cons, steps_succ (hstep.trans (congrArg Host.Outcome.next (advance_more hmore)))]
      refine (ih (s := { s with
        agenda := List.replicate (b' :: bytes).length .rxByte ++ rest, rxFifo := b' :: bytes ++ fifo
        echoStg := s.echoStg ++ [b], idx := BitVec.ofNat 9 (s.idx.toNat + 1) })
        hecho (List.cons_ne_nil _ _) ?move rfl rfl).trans ?staged
      case move => exact (congrArg (· + _) hidx).trans ((Nat.add_right_comm ..).trans hmove)
      case staged => rw [List.append_assoc]; rfl

theorem afterEcho_of_eq {s : State} (h : s.echoStg = s.wire) : afterEcho s = s.complete .none .idle 0#9 := if_pos h

theorem afterEcho_of_ne {s : State} (h : s.echoStg ≠ s.wire) :
    afterEcho s = s.complete .echo .echo (BitVec.ofNat 9 (5 + s.txHdr.len.toNat)) := if_neg h

/-- R93: with the image on the line ECHO begins, reads 5 + N bytes, and compares them. -/
theorem steps_echo {s : State} {echo fifo : List Byte} {rest : List Event} (ht : s.timeoutMs ≠ 0#32) (he : s.ctrl.echoEn = true)
    (hlen : echo.length = 5 + s.txHdr.len.toNat) (hfifo : s.rxFifo = echo ++ fifo) (ha : s.agenda = List.replicate echo.length .rxByte ++ rest) :
    steps echo.length (afterTxCk s) = .next (afterEcho { s with agenda := rest, rxFifo := fifo, echoStg := echo }) := by
  have hmove : (s.beginPhase .echo).toMove = echo.length := hlen.symm
  have hne : echo ≠ [] := by rintro rfl; rw [List.length_nil] at hlen; omega
  have hopen : afterTxCk s = s.beginPhase .echo := by
    rw [afterTxCk, if_pos he]
    exact State.openPhase_wait .echo _ s (by rw [hmove, hlen]; omega) ht
  rw [hopen]
  exact steps_rxByte_echo echo (s := s.beginPhase .echo) rfl hne ((Nat.zero_add _).trans hmove.symm) hfifo ha

/-- Settles O34: after the image the echo is read whole, and it is the image or it is not. -/
theorem echoDecidesWhetherSendSucceeds : Obligations.EchoDecidesWhetherSendSucceeds := by
  intro s rest echo fifo hb ht he hlen hfifo ha
  have hcount : 11 + 2 * s.txHdr.len.toNat = 6 + s.txHdr.len.toNat + echo.length := by omega
  have hecho := steps_echo (rest := rest)
    (s := { (s.accept .send).latchWire with
      agenda := List.replicate echo.length .rxByte ++ rest, txLine := s.txLine ++ s.buildWire }) ht he hlen hfifo rfl
  rw [← hlen] at ha
  have hrun := (steps_add (steps_send hb ht (hlen ▸ ha)) _).trans hecho
  rw [← hcount] at hrun
  by_cases heq : echo = s.buildWire
  · rw [afterEcho_of_eq (by exact heq)] at hrun
    refine ⟨_, hrun, rfl, rfl, rfl, rfl, rfl, fun _ => ⟨rfl, rfl, rfl⟩, fun hne => absurd heq hne, ?_, ?_⟩
    · exact { SameOperands.refl s with }
    · exact { SameReceived.refl s with }
  · rw [afterEcho_of_ne (by exact heq)] at hrun
    have hcnt : (BitVec.ofNat 9 (5 + s.txHdr.len.toNat)).toNat = 5 + s.txHdr.len.toNat := by
      rw [BitVec.toNat_ofNat]
      omega
    refine ⟨_, hrun, rfl, rfl, rfl, rfl, rfl, fun h => absurd h heq, fun _ => ⟨rfl, rfl, hcnt⟩, ?_, ?_⟩
    · exact { SameOperands.refl s with }
    · exact { SameReceived.refl s with }

end Sys2Proof.Machine
end

section
/-!
PROOFS. The receive commands step by step: acceptance (R100, R101), a byte that joins the frame (R45), and the step of the trailing byte (R47): the frame
does not validate (R105), has the wrong length (R106), or is delivered (R107 to R109).
-/

namespace Sys2Proof.Machine

/-! #### A receive command with the engine idle -/

/-- Settles O21: acceptance and the latches, and RX_HDR needs its first byte. -/
theorem receiveCommandsStartListening : Obligations.ReceiveCommandsStartListening := by
  intro s hb ht hm
  have hwait {o : Op} (ho : o.isRecv = true) := congrArg (Host.Outcome.next (φ := Fault) (ρ := Refusal)) (issueRecv_waits ho hb hm ht)
  exact ⟨hwait rfl, hwait rfl, hwait rfl, fun _ => rfl⟩

/-- Settles O23: the command is accepted and fails before RX_HDR begins. -/
theorem reservedLengthModeFailsAtOnce : Obligations.ReservedLengthModeFailsAtOnce := by
  intro s i hi hb hm
  have hfail {o : Op} (ho : o.isRecv = true) := congrArg (Host.Outcome.next (φ := Fault) (ρ := Refusal)) (issueRecv_reserved ho hb hm)
  obtain rfl | rfl | rfl := hi <;> exact ⟨_, hfail rfl, rfl, rfl, rfl, rfl, rfl, rfl, rfl, rfl, rfl⟩

/-! #### The copy to DBUF (R109) -/

theorem toNat_minByte (n l : Byte) : (minByte n l).toNat = min n.toNat l.toNat := by
  unfold minByte
  split <;> omega

/-- No more payload bytes are copied than DBUF_LEN allows, nor than the payload has. -/
theorem length_copied (s : State) :
    (s.rxPayload.take (minByte s.rxLen s.dbufLen).toNat).length = min s.dbufLen.toNat s.rxPayload.length := by
  have hle : s.rxPayload.length ≤ s.rxLen.toNat := List.length_take_le ..
  rw [List.length_take, toNat_minByte]
  omega

/-- Inside the window of DBUF_LEN elements: the payload, and 0 where it has no byte. -/
theorem copyToDbuf_inside {s : State} (hwf : s.mem.wf = true) {i : Nat} (hi : i < s.dbufLen.toNat) :
    (copyToDbuf s).mem.read (dbufBase + 4 * i) = s.rxPayload.getD i 0#8 := by
  have hcopied := length_copied s
  by_cases hp : i < s.rxPayload.length
  · refine (Memory.read_writeElems_at _ _ _ i (by omega) (Memory.writeElems_wf _ _ _ hwf)).trans ?_
    rw [List.getElem_take, ← List.getD_eq_getElem _ 0#8]
  · refine (Memory.read_writeElems_other _ _ _ _ fun j hj => by omega).trans ?_
    rw [Memory.read_writeElems_at _ _ _ i (by rwa [List.length_replicate]) hwf, List.getElem_replicate,
      List.getD_eq_default _ _ (Nat.le_of_not_lt hp)]

/-- Outside that window nothing is written. -/
theorem copyToDbuf_outside {s : State} {a : Nat} (ha : ∀ i, i < s.dbufLen.toNat → a ≠ dbufBase + 4 * i) :
    (copyToDbuf s).mem.read a = s.mem.read a := by
  have hcopied := length_copied s
  refine (Memory.read_writeElems_other _ _ _ _ fun i hi => ha i (by omega)).trans ?_
  exact Memory.read_writeElems_other _ _ _ _ fun i hi => ha i (by rwa [List.length_replicate] at hi)

/-! #### The delivery -/

/-- R100, R107, R108, R109: RESULT and the buffers after the delivery of the frame that stands in RX_STG. -/
structure Delivered (s : State) (r : Result) (m : Memory) : Prop where
  silent : s.op = .recv → r = Result.zero
  status : s.op ≠ .recv →
    r.statusByte = s.rxStg.getD 3 0#8 ∧ r.statusValid = true ∧ r.devErr = decide (s.rxStg.getD 3 0#8 ≠ 0#8)
  uncopied : s.op ≠ .recvData → r.copyLen = 0#8 ∧ m = s.mem
  copyLen : s.op = .recvData → r.copyLen.toNat = min s.rxLen.toNat s.dbufLen.toNat
  inside : s.op = .recvData → ∀ i, i < s.dbufLen.toNat → m.read (dbufBase + 4 * i) = s.rxPayload.getD i 0#8
  outside : s.op = .recvData → ∀ a, (∀ i, i < s.dbufLen.toNat → a ≠ dbufBase + 4 * i) → m.read a = s.mem.read a

theorem devErrOf_eq_decide (b : Byte) : devErrOf b = decide (b ≠ 0#8) := by
  simp [devErrOf, bne, beq_eq_decide]

theorem Op.isRecv_iff {o : Op} : o.isRecv = true ↔ o = .recv ∨ o = .recvStatus ∨ o = .recvData := by
  cases o <;> simp [Op.isRecv]

section
variable {s : State}

theorem deliver_of_recv (hop : s.op = .recv) : deliver s = s := by rw [deliver, hop]

theorem deliver_of_recvStatus (hop : s.op = .recvStatus) : deliver s = deliverStatus s := by rw [deliver, hop]

theorem deliver_of_recvData (hop : s.op = .recvData) : deliver s = copyToDbuf (deliverStatus s) := by rw [deliver, hop]

/-- Each receive command delivers its own; nothing but RESULT and the buffers is written. -/
theorem deliver_delivers (ho : s.op.isRecv = true) (hres : s.result = Result.zero) (hwf : s.mem.wf = true) :
    ∃ r m, deliver s = { s with result := r, mem := m } ∧ Delivered s r m := by
  have hdev := devErrOf_eq_decide (s.rxStg.getD 3 0#8)
  have hcopyLen : s.result.copyLen = 0#8 := by rw [hres]; rfl
  obtain hop | hop | hop := Op.isRecv_iff.mp ho
  · exact ⟨_, _, deliver_of_recv hop, {
      silent := fun _ => hres
      status := fun hne => absurd hop hne
      uncopied := fun _ => ⟨hcopyLen, rfl⟩
      copyLen := by simp [hop]
      inside := by simp [hop]
      outside := by simp [hop] }⟩
  · exact ⟨_, _, deliver_of_recvStatus hop, {
      silent := by simp [hop]
      status := fun _ => ⟨rfl, rfl, hdev⟩
      uncopied := fun _ => ⟨hcopyLen, rfl⟩
      copyLen := by simp [hop]
      inside := by simp [hop]
      outside := by simp [hop] }⟩
  · exact ⟨_, _, deliver_of_recvData hop, {
      silent := by simp [hop]
      status := fun _ => ⟨rfl, rfl, hdev⟩
      uncopied := fun hne => absurd hop hne
      copyLen := fun _ => toNat_minByte _ _
      inside := fun _ _ => copyToDbuf_inside (s := deliverStatus s) hwf
      outside := fun _ _ => copyToDbuf_outside (s := deliverStatus s) }⟩

end

/-! #### The end of a frame (R100) -/

section
variable {s : State}

/-- R105. -/
theorem finishReceive_invalid (hbad : frameOk s.rxModeL s.params.crcInit s.rxExpL s.rxStg = false) :
    finishReceive s = s.complete .integrity .idle 0#9 := if_neg (by simp [hbad])

variable (hok : frameOk s.rxModeL s.params.crcInit s.rxExpL s.rxStg = true)
include hok

/-- R106. -/
theorem finishReceive_wrong_length (hlen : lenOk s.lenchk s.rxLen = false) :
    finishReceive s = State.complete .length .idle 0#9 { s with rxValid := true } :=
  (if_pos hok).trans (if_neg (Bool.eq_false_iff.mp hlen))

/-- R102, R107, R109. -/
theorem finishReceive_delivers (hlen : lenOk s.lenchk s.rxLen = true) (ho : s.op.isRecv = true) (hres : s.result = Result.zero)
    (hwf : s.mem.wf = true) :
    ∃ r m, finishReceive s = State.complete .none .idle 0#9 { s with rxValid := true, result := r, mem := m } ∧ Delivered s r m := by
  obtain ⟨r, m, heq, hdel⟩ := deliver_delivers (s := { s with rxValid := true }) ho hres hwf
  have hfinish : finishReceive s = (deliver { s with rxValid := true }).succeed := (if_pos hok).trans (if_pos hlen)
  exact ⟨r, m, by rw [hfinish, heq]; rfl, { hdel with }⟩

end

/-- R106: the three modes of the validator. -/
theorem lenOk_modes (e n : Byte) :
    lenOk ⟨e, .none⟩ n = true ∧ (lenOk ⟨e, .exact⟩ n = true ↔ n = e) ∧ (lenOk ⟨e, .min⟩ n = true ↔ e.toNat ≤ n.toNat) :=
  ⟨rfl, beq_iff_eq, decide_eq_true_iff⟩

/-! #### A byte of a received frame -/

theorem Phase.isRead_of_ofRecv {p : Phase} (h : p.ofRecv = true) : p.isRead = true := by
  cases p <;> simp [Phase.ofRecv, Phase.isRead] at h ⊢

theorem Phase.ne_echo_of_ofRecv {p : Phase} (h : p.ofRecv = true) : p ≠ .echo := by rintro rfl; cases h

/-- R28 d, R45, R50: these bytes of the transport are taken, joined to the frame and counted. -/
def State.taking (s : State) (bytes fifo : List Byte) (rest : List Event) : State :=
  { s with agenda := rest, rxFifo := fifo, rxStg := s.rxStg ++ bytes, idx := s.idx + BitVec.ofNat 9 bytes.length }

theorem State.taking_taking (s : State) (xs ys fifo fifo' : List Byte) (rest rest' : List Event) :
    (s.taking xs fifo rest).taking ys fifo' rest' = s.taking (xs ++ ys) fifo' rest' := by
  simp [State.taking, BitVec.add_assoc, BitVec.ofNat_add]

section
variable {s : State} {b : Byte} {fifo : List Byte} {rest : List Event}

/-- R63: once the length byte stands, a further byte leaves it. -/
theorem rxLen_taking (hlen : 2 ≤ s.rxStg.length) : (s.taking [b] fifo rest).rxLen = s.rxLen := getD_one_append hlen b

/-- R27: a receive phase has as many bytes to move after a byte as before. -/
theorem toMove_taking (hlen : s.phase = .rxPayload → 2 ≤ s.rxStg.length) : (s.taking [b] fifo rest).toMove = s.toMove := by
  change State.toMoveIn (s.taking [b] fifo rest) s.phase = s.toMoveIn s.phase
  cases hp : s.phase with
  | rxPayload => exact congrArg BitVec.toNat (rxLen_taking (hlen hp))
  | idle | txHdr | txPayload | txCk | echo | rxHdr | rxCk => rfl

variable (hr : s.phase.ofRecv = true) (hf : s.rxFifo = b :: fifo) (ha : s.agenda = .rxByte :: rest)
include hr hf ha

/-- R45, R50: in a receive phase with bytes left the transport's oldest byte joins the frame. -/
theorem step_rxByte_ofRecv (hleft : s.idx.toNat < s.toMove) :
    step s = .next (advance { s with agenda := rest, rxFifo := fifo, rxStg := s.rxStg ++ [b] }) := by
  have hready : s.rxReady = true := by simp [State.rxReady, Phase.isRead_of_ofRecv hr, hleft]
  rw [step_cons s _ _ ha]
  refine congrArg Host.Outcome.next ((rxByte_enabled { s with agenda := rest } b fifo hf hready).trans ?_)
  simp only [State.stage_eq, hr, if_true, Phase.ne_echo_of_ofRecv hr, if_false]

variable (hlen : s.phase = .rxPayload → 2 ≤ s.rxStg.length) (hleft : s.idx.toNat < s.toMove)
include hlen hleft

/-- R45, R47: the byte is counted, and what follows the phase's last byte is in the same step. -/
theorem step_rxByte_cases :
    (s.idx.toNat + 1 = s.toMove ∧ step s = .next (phaseDone (s.taking [b] fifo rest))) ∨
    (s.idx.toNat + 1 < s.toMove ∧ step s = .next (s.taking [b] fifo rest)) := by
  have hmove : State.toMove { s with agenda := rest, rxFifo := fifo, rxStg := s.rxStg ++ [b] } = s.toMove :=
    toMove_taking (b := b) (fifo := fifo) (rest := rest) hlen
  have hcases := advance_cases { s with agenda := rest, rxFifo := fifo, rxStg := s.rxStg ++ [b] } (hmove.symm ▸ hleft)
  rw [hmove] at hcases
  rw [step_rxByte_ofRecv hr hf ha hleft]
  exact hcases.imp (And.imp_right (congrArg _)) (And.imp_right (congrArg _))

theorem step_rxByte_last (hlast : s.idx.toNat + 1 = s.toMove) : step s = .next (phaseDone (s.taking [b] fifo rest)) := by
  rcases step_rxByte_cases hr hf ha hlen hleft with ⟨-, h⟩ | ⟨hmore, -⟩
  · exact h
  · omega

theorem step_rxByte_more (hmore : s.idx.toNat + 1 < s.toMove) : step s = .next (s.taking [b] fifo rest) := by
  rcases step_rxByte_cases hr hf ha hlen hleft with ⟨hlast, -⟩ | ⟨-, h⟩
  · omega
  · exact h

end

/-- R45: as many RxBytes as a receive phase has bytes left take them in order, and the phase is done. -/
theorem steps_rxByte_ofRecv (bytes : List Byte) {s : State} {fifo : List Byte} {rest : List Event} (hr : s.phase.ofRecv = true)
    (hne : bytes ≠ []) (hlen : s.phase = .rxPayload → 2 ≤ s.rxStg.length) (hmove : s.idx.toNat + bytes.length = s.toMove)
    (hf : s.rxFifo = bytes ++ fifo) (ha : s.agenda = List.replicate bytes.length .rxByte ++ rest) :
    steps bytes.length s = .next (phaseDone (s.taking bytes fifo rest)) := by
  induction bytes generalizing s with
  | nil => exact absurd rfl hne
  | cons b bytes ih =>
    have hleft : s.idx.toNat < s.toMove := by rw [← hmove, List.length_cons]; omega
    cases bytes with
    | nil => exact steps_succ (step_rxByte_last hr hf ha hlen hleft hmove) 0
    | cons b' bytes =>
      obtain ⟨hmore, -⟩ := idx_more hmove
      rw [List.length_cons, steps_succ (step_rxByte_more hr hf ha hlen hleft hmore)]
      refine (ih (s := s.taking [b] (b' :: bytes ++ fifo) _) hr (List.cons_ne_nil _ _) (fun hp => (hlen hp).trans ?len) ?move rfl rfl).trans ?all
      case len => simp [State.taking]
      case move => exact (congrArg (· + _) (toNat_idx_succ hleft)).trans ((Nat.add_right_comm ..).trans (hmove.trans (toMove_taking hlen).symm))
      case all => rw [State.taking_taking]; rfl

/-! #### The trailing byte -/

theorem phaseDone_of_rxCk {s : State} (hp : s.phase = .rxCk) : phaseDone s = finishReceive s := by
  rw [phaseDone, hp]

/-- What the invariant says of a receive command that waits for the trailing byte. -/
structure WaitsForTrail (s : State) : Prop where
  phase : s.phase = .rxCk
  op : s.op.isRecv = true
  rxValid : s.rxValid = false
  result : s.result = Result.zero
  last : s.idx.toNat + 1 = s.toMove
  staged : s.rxStg.length = 4 + s.rxLen.toNat
  memory : s.mem.wf = true

theorem Inv.waitsForTrail {s : State} (h : Inv s) (hp : s.phase = .rxCk) : WaitsForTrail s := by
  have hr : s.phase.ofRecv = true := by rw [hp]; rfl
  have hmove : s.toMove = 1 := by rw [State.toMove, hp]; rfl
  obtain ⟨-, -, -, hwait⟩ := h.sequencer
  obtain ⟨-, -, hrecv⟩ := h.operation
  obtain ⟨-, -, -, -, staged⟩ := h.staging
  obtain ⟨-, hunseen, hzero⟩ := h.view
  obtain ⟨hwf, -⟩ := h.buffers
  obtain ⟨hop, -⟩ := hrecv hr
  obtain ⟨hleft, -⟩ := hwait (Phase.ne_idle_of_ofRecv hr)
  exact ⟨hp, hop, hunseen hr, hzero (hunseen hr), by omega, staged hp, hwf⟩

namespace WaitsForTrail

variable {s : State} (h : WaitsForTrail s) {b : Byte} {fifo : List Byte} {rest : List Event}
include h

/-- R47: the trailing byte and the end of the procedure are one step. -/
theorem step_eq (hf : s.rxFifo = b :: fifo) (ha : s.agenda = .rxByte :: rest) : step s = .next (finishReceive (s.taking [b] fifo rest)) := by
  have hr : s.phase.ofRecv = true := by rw [h.phase]; rfl
  exact (step_rxByte_last hr hf ha (fun hp => absurd (h.phase.symm.trans hp) nofun) (Nat.lt_of_succ_le h.last.le) h.last).trans
    (congrArg Host.Outcome.next (phaseDone_of_rxCk h.phase))

theorem rxLen_taking : (s.taking [b] fifo rest).rxLen = s.rxLen :=
  Machine.rxLen_taking (by have := h.staged; omega)

theorem rxPayload_taking : (s.taking [b] fifo rest).rxPayload = s.rxStg.drop 4 := by
  have hstg := h.staged
  rw [State.rxPayload, h.rxLen_taking]
  change ((s.rxStg ++ [b]).drop 4).take s.rxLen.toNat = s.rxStg.drop 4
  rw [List.drop_append_of_le_length (by omega)]
  exact List.take_left' (by rw [List.length_drop]; omega)

theorem statusByte_taking : (s.taking [b] fifo rest).rxStg.getD 3 0#8 = s.rxStg.getD 3 0#8 := by
  have hstg := h.staged
  exact List.getD_append _ _ _ _ (by omega)

end WaitsForTrail

/-- Settles O36: validation fails, so the operation completes before the frame is shown. -/
theorem badChecksumDeliversNothing : Obligations.BadChecksumDeliversNothing := by
  intro s rest b fifo hinv ha hp hf hbad
  have hwait := hinv.waitsForTrail hp
  have hv := hwait.rxValid
  have hlen := hwait.staged
  refine ⟨_, (hwait.step_eq hf ha).trans (congrArg _ (finishReceive_invalid hbad)), rfl, rfl, rfl, rfl, rfl, hv, ?hdr, ?ck, ?payload,
    hwait.result, fun _ => rfl, by omega, rfl⟩
  case hdr => exact if_neg (Bool.eq_false_iff.mp hv)
  case ck => exact if_neg (Bool.eq_false_iff.mp hv)
  case payload => exact fun i => if_neg (by simp [State.taking, hv])

/-- Settles O37: the frame is shown before the validator rejects its length. -/
theorem wrongLengthKeepsTheFrameVisible : Obligations.WrongLengthKeepsTheFrameVisible := by
  refine ⟨lenOk_modes, fun s rest b fifo hinv ha hp hf hok hlen => ?_⟩
  have hwait := hinv.waitsForTrail hp
  have hfinish := finishReceive_wrong_length (s := s.taking [b] fifo rest) hok (by rw [hwait.rxLen_taking]; exact hlen)
  exact ⟨_, (hwait.step_eq hf ha).trans (congrArg _ hfinish), rfl, rfl, rfl, rfl, rfl, rfl, rfl, hwait.result, fun _ => rfl, rfl⟩

/-- Settles O38: the delivery of the command, over the frame with its trailing byte. -/
theorem lastByteDeliversStatusAndCopy : Obligations.LastByteDeliversStatusAndCopy := by
  intro s rest b fifo hinv ha hp hf hok hlen
  have hwait := hinv.waitsForTrail hp
  have hrxLen := hwait.rxLen_taking (b := b) (fifo := fifo) (rest := rest)
  have hpayload := hwait.rxPayload_taking (b := b) (fifo := fifo) (rest := rest)
  have hstatus := hwait.statusByte_taking (b := b) (fifo := fifo) (rest := rest)
  obtain ⟨r, m, heq, hdel⟩ :=
    finishReceive_delivers (s := s.taking [b] fifo rest) hok (by rw [hrxLen]; exact hlen) hwait.op hwait.result hwait.memory
  refine ⟨_, (hwait.step_eq hf ha).trans (congrArg _ heq), rfl, rfl, rfl, rfl, rfl, rfl, rfl, hdel.silent, ?status, ?uncopied, ?copied⟩
  case status => rw [← hstatus]; exact hdel.status
  case uncopied =>
    intro ho
    obtain ⟨hzero, hmem⟩ := hdel.uncopied ho
    exact ⟨hzero, fun a => congrArg (Memory.read · a) hmem⟩
  case copied =>
    intro ho
    refine ⟨(hdel.copyLen ho).trans (by rw [hrxLen]; rfl), fun i hi => (hdel.inside ho i hi).trans ?_, hdel.outside ho⟩
    have hstg := hwait.staged
    rw [hpayload]
    simp only [List.getD_eq_getElem?_getD, List.getElem?_drop]
    split
    · rfl
    · rw [List.getElem?_eq_none (by omega)]; rfl

end Sys2Proof.Machine
end

section
/-!
PROOFS. A receive command's whole run (R100, R113): the header, the payload and the trailing byte come in, and a valid frame is delivered.
-/

namespace Sys2Proof.Machine

/-! #### The phases of a receive command, over the frame's bytes -/

section
variable {s : State} {rest : List Event} {d n x h t : Byte} {p fifo : List Byte}

/-- Phase 5 (R100): the header comes in. -/
theorem steps_rxHdr (hf : s.rxFifo = [d, n, x, h] ++ fifo) (ha : s.agenda = List.replicate 4 .rxByte ++ rest) :
    steps 4 (s.beginPhase .rxHdr) = .next (afterRxHdr { s with agenda := rest, rxFifo := fifo, rxStg := [d, n, x, h] }) :=
  steps_rxByte_ofRecv [d, n, x, h] (s := s.beginPhase .rxHdr) rfl (List.cons_ne_nil _ _) nofun rfl hf ha

variable (ht : s.timeoutMs ≠ 0#32)
include ht

/-- Phase 6 (R100): as many payload bytes as the length byte says; none pass without a wait (R48). -/
theorem steps_rxPayload (hstg : s.rxStg = [d, n, x, h]) (hp : p.length = n.toNat) (hf : s.rxFifo = p ++ fifo)
    (ha : s.agenda = List.replicate p.length .rxByte ++ rest) :
    steps p.length (afterRxHdr s) = .next (afterRxPayload { s with agenda := rest, rxFifo := fifo, rxStg := s.rxStg ++ p }) := by
  have hmove : (s.beginPhase .rxPayload).toMove = p.length := by
    change (s.rxStg.getD 1 0#8).toNat = p.length
    rw [hstg, hp]
    rfl
  cases p with
  | nil =>
    obtain rfl : s.agenda = rest := ha
    obtain rfl : s.rxFifo = fifo := hf
    rw [List.append_nil, afterRxHdr, State.openPhase_empty _ hmove]
    rfl
  | cons b bs =>
    rw [afterRxHdr, State.openPhase_wait _ _ _ (by simp [hmove]) ht]
    refine steps_rxByte_ofRecv (b :: bs) (s := s.beginPhase .rxPayload) rfl (List.cons_ne_nil _ _) (fun _ => ?_) (hmove ▸ Nat.zero_add _) hf ha
    simp [hstg]

/-- Phase 7 (R100): the trailing byte comes in, and the frame ends. -/
theorem steps_rxCk (hf : s.rxFifo = t :: fifo) (ha : s.agenda = .rxByte :: rest) :
    steps 1 (afterRxPayload s) = .next (finishReceive ((s.beginPhase .rxCk).taking [t] fifo rest)) := by
  rw [afterRxPayload, State.openPhase_wait .rxCk _ s (Nat.succ_ne_zero 0) ht]
  exact steps_rxByte_ofRecv [t] (s := s.beginPhase .rxCk) rfl (List.cons_ne_nil _ _) nofun rfl hf ha

/-- R100, R113: in 5 + N RxBytes the three phases take the frame. -/
theorem steps_frame (hp : p.length = n.toNat) (hf : s.rxFifo = wireFrame d n x h p t ++ fifo)
    (ha : s.agenda = List.replicate (5 + n.toNat) .rxByte ++ rest) :
    steps (5 + n.toNat) (s.beginPhase .rxHdr) =
      .next (finishReceive { s.beginPhase .rxCk with agenda := rest, rxFifo := fifo, rxStg := wireFrame d n x h p t, idx := 1#9 }) := by
  have hcount : 5 + n.toNat = 4 + (p.length + 1) := by omega
  have hhdr : steps 4 (s.beginPhase .rxHdr) = .next (afterRxHdr { s with
      agenda := List.replicate p.length .rxByte ++ .rxByte :: rest, rxFifo := p ++ t :: fifo, rxStg := [d, n, x, h] }) := by
    refine steps_rxHdr (hf.trans (by simp [wireFrame])) ?_
    rw [ha, hcount, List.replicate_add, List.replicate_succ' (n := p.length), List.append_assoc, List.append_assoc]
    rfl
  have hpayload := steps_rxPayload (rest := .rxByte :: rest) (fifo := t :: fifo) (p := p)
    (s := { s with agenda := List.replicate p.length .rxByte ++ .rxByte :: rest, rxFifo := p ++ t :: fifo, rxStg := [d, n, x, h] })
    ht rfl hp rfl rfl
  have hck := steps_rxCk (rest := rest) (fifo := fifo) (t := t)
    (s := { s with agenda := .rxByte :: rest, rxFifo := t :: fifo, rxStg := [d, n, x, h] ++ p }) ht rfl rfl
  rw [hcount]
  exact (steps_add hhdr _).trans ((steps_add hpayload 1).trans hck)

end

/-! #### From the command to the end of the frame -/

/-- The word each receive command is written to CMD as (R66). -/
theorem step_receive {s : State} {rest : List Event} {o : Op} {cmd : Word}
    (hcmd : (o = .recv ∧ cmd = 2#32) ∨ (o = .recvStatus ∧ cmd = 3#32) ∨ (o = .recvData ∧ cmd = 4#32))
    (ha : s.agenda = .host (.write .word 0x01C cmd) :: rest) : o.isRecv = true ∧ step s = .next (issueRecv o { s with agenda := rest }) := by
  rw [step_cons s _ rest ha]
  obtain ⟨rfl, rfl⟩ | ⟨rfl, rfl⟩ | ⟨rfl, rfl⟩ := hcmd
  · exact ⟨rfl, handle_command (i := .recv) rfl _⟩
  · exact ⟨rfl, handle_command (i := .recvStatus) rfl _⟩
  · exact ⟨rfl, handle_command (i := .recvData) rfl _⟩

/-- The state in which the end of the receive procedure finds the whole frame `f` that `o` has read from the idle state `s` (R100). -/
def State.received (s : State) (o : Op) (f fifo : List Byte) (rest : List Event) : State :=
  { s.receiving o with agenda := rest, rxFifo := fifo, rxStg := f, phase := .rxCk, idx := 1#9 }

/-- R100, R113: the command and 5 + N RxBytes. -/
theorem steps_receive {s : State} {rest : List Event} {o : Op} {cmd : Word} {d n x h t : Byte} {p fifo : List Byte}
    (hcmd : (o = .recv ∧ cmd = 2#32) ∨ (o = .recvStatus ∧ cmd = 3#32) ∨ (o = .recvData ∧ cmd = 4#32))
    (hb : s.busy = false) (ht : s.timeoutMs ≠ 0#32) (hm : s.lenchk.lenMode ≠ .reserved) (hp : p.length = n.toNat)
    (hf : s.rxFifo = wireFrame d n x h p t ++ fifo)
    (ha : s.agenda = .host (.write .word 0x01C cmd) :: (List.replicate (5 + n.toNat) .rxByte ++ rest)) :
    o.isRecv = true ∧ steps (6 + n.toNat) s = .next (finishReceive (s.received o (wireFrame d n x h p t) fifo rest)) := by
  obtain ⟨ho, hstep⟩ := step_receive hcmd ha
  refine ⟨ho, ?_⟩
  rw [issueRecv_waits (s := { s with agenda := List.replicate (5 + n.toNat) .rxByte ++ rest }) ho hb hm ht] at hstep
  rw [show 6 + n.toNat = 5 + n.toNat + 1 by omega, steps_succ hstep]
  exact steps_frame (s := State.receiving { s with agenda := List.replicate (5 + n.toNat) .rxByte ++ rest } o) ht hp hf rfl

/-- R109, element by element: the payload where both have it, 0 up to DBUF_LEN, and above it what stood there. -/
theorem Delivered.dbufByte {s : State} {r : Result} {m : Memory} (hdel : Delivered s r m) (ho : s.op = .recvData) {p : List Byte}
    (hp : s.rxPayload = p) (i : Nat) :
    m.read (dbufBase + 4 * i) =
      if i < min p.length s.dbufLen.toNat then p.getD i 0#8 else if i < s.dbufLen.toNat then 0#8 else s.dbufByte i := by
  subst hp
  by_cases hi : i < s.dbufLen.toNat
  · rw [hdel.inside ho i hi, if_pos hi]
    split
    · rfl
    · exact List.getD_eq_default _ _ (by omega)
  · rw [if_neg (by omega), if_neg hi]
    exact hdel.outside ho _ fun j hj => by omega

/-- Settles O35: the frame's bytes are taken in order, and the end of the frame delivers it. -/
theorem receiveDeliversAValidFrame : Obligations.ReceiveDeliversAValidFrame := by
  intro s rest o cmd d n x h t p fifo hcmd hb ht hm hwf hp hok hlen hf ha
  obtain ⟨ho, hrun⟩ := steps_receive hcmd hb ht hm hp hf ha
  obtain ⟨r, m, heq, hdel⟩ := finishReceive_delivers (s := s.received o (wireFrame d n x h p t) fifo rest) hok hlen ho rfl hwf
  have hframe := (EngineFrame.refl (s.received o (wireFrame d n x h p t) fifo rest)).finishReceive
  rw [heq] at hrun hframe
  have hpayload : (s.received o (wireFrame d n x h p t) fifo rest).rxPayload = p := by
    rw [State.rxPayload, show (s.received o (wireFrame d n x h p t) fifo rest).rxLen.toNat = p.length from hp.symm]
    exact take_drop_wireFrame ..
  refine ⟨_, hrun, rfl, rfl, rfl, rfl, rfl, rfl, rfl, rfl, rfl, rfl, rfl, rfl, rfl, { hframe.toSameOperands with }, hdel.silent, hdel.status,
    fun hd => ?uncopied, fun hd => ⟨hdel.copyLen hd, fun i _ => ?copied⟩⟩
  case uncopied =>
    obtain ⟨hzero, hmem⟩ := hdel.uncopied hd
    exact ⟨hzero, fun i _ => congrArg (Memory.read · (dbufBase + 4 * i)) hmem⟩
  case copied => rw [← hp]; exact hdel.dbufByte hd hpayload i

end Sys2Proof.Machine
end

section
/-!
PROOFS. The writes to CMD and to a locked register that do nothing of their own: NOP (R124), and the three kinds that are refused (R121).
-/

namespace Sys2Proof.Machine

theorem opField_eq_zero_iff (v : Word) : opField v = 0x00#8 ↔ v.toNat % 256 = 0 := by
  rw [← toNat_opField]
  exact BitVec.toNat_inj.symm

/-- R66: NOP is the low byte 0. -/
theorem decodeCmd_eq_nop_iff (v : Word) : decodeCmd v = .ok .nop ↔ v.toNat % 256 = 0 := by
  rw [← opField_eq_zero_iff, decodeCmd]
  split_ifs <;> simp [*]

/-- Settles O19: the low byte 0 decodes to NOP, and NOP answers the state it is given. -/
theorem nopHasNoEffect : Obligations.NopHasNoEffect :=
  ⟨fun _ => rfl, fun s rest v hv ha => (step_cons s _ rest ha).trans (handle_command ((decodeCmd_eq_nop_iff v).mpr hv) _)⟩

/-- R66, R68: the low bytes 1 to 4 are the commands other than NOP. -/
theorem decodeCmd_of_low_byte {v : Word} (hlow : 1 ≤ v.toNat % 256) (hhigh : v.toNat % 256 ≤ 4) : ∃ i, decodeCmd v = .ok i ∧ i ≠ .nop := by
  cases hd : decodeCmd v with
  | ok i =>
    refine ⟨i, rfl, ?_⟩
    rintro rfl
    have := (decodeCmd_eq_nop_iff v).mp hd
    omega
  | error e =>
    have := (decodeCmd_eq_error_iff v).mp ⟨e, hd⟩
    rw [toNat_opField] at this
    omega

/-- R121 a: while BUSY every command but NOP is dropped. -/
theorem exec_command_busy {i : Instr} {s : State} (hi : i.isRequest = false) (hn : i ≠ .nop) (hb : s.busy = true) :
    exec i s = .next s.setCmdErr := by
  cases i with
  | nop => exact absurd rfl hn
  | send | recv | recvStatus | recvData => exact congrArg Host.Outcome.next (admitCommand_busy _ _ s hb)
  | mCommsRev | mReset | mRdMinh | mModMinh | mRdCredit | mRdInh | mModInh => cases hi

/-- R121 b: a reserved opcode is refused at any time. -/
theorem hostCommand_reserved {v : Word} (hv : 5 ≤ v.toNat % 256) (s : State) : hostCommand v s = .next s.setCmdErr := by
  obtain ⟨e, he⟩ := (decodeCmd_eq_error_iff v).mpr ((toNat_opField v).symm ▸ hv)
  simp [hostCommand, he, reservedCommand]

/-- Settles O24: the three kinds of refusal, the locked write being O15's. -/
theorem refusedWritesOnlySetCmdErr : Obligations.RefusedWritesOnlySetCmdErr := by
  rintro s rest off v ha (⟨rfl, hlow, hhigh, hb⟩ | ⟨rfl, hv⟩ | ⟨hal, hl, hb⟩)
  · obtain ⟨i, hd, hn⟩ := decodeCmd_of_low_byte hlow hhigh
    rw [step_cons s _ rest ha, handle_command hd]
    exact exec_command_busy (s := { s with agenda := rest }) (isRequest_of_decodeCmd hd) hn hb
  · exact (step_cons s _ rest ha).trans (hostCommand_reserved hv _)
  · exact operandsAreLockedWhileBusy.1 s rest off v ha hal hl hb

end Sys2Proof.Machine
end

section
/-!
PROOFS. The host beside a running operation (R129), and the two streams (R127): a host access, a request, a call or a turn of the software leaves a running
operation alone, and only the transfers of R44 and R45 move a byte.
-/

namespace Sys2Proof.Machine

/-! #### The host while BUSY -/

/-- An event of the host or of its software (R7). -/
def Event.ofHost : Event → Bool
  | .host _ | .request _ | .call _ | .software => true
  | .txAccept | .rxByte | .tick | .reset | .arrive _ | .lose _ | .cycle _ => false

/-- What the host's events write while BUSY: DONE and CMD_ERR, the value last read, and the software's own state. -/
def BesideOperation (s t : State) : Prop := ∃ d c dr r, t = { s with done := d, cmdErr := c, driver := dr, rdata := r }

theorem HostMoves.besideOperation {s t : State} (h : HostMoves s t) (hb : s.busy = true) : BesideOperation s t := by
  obtain ⟨c, dr, rfl⟩ := h.of_busy hb
  exact ⟨_, c, dr, _, rfl⟩

theorem BesideOperation.hostAccess {a : HostAccess} {s t : State} (hb : s.busy = true) (ht : hostAccess a s = .next t) : BesideOperation s t := by
  rcases hostAccess_next ht with ⟨off, -, rfl⟩ | ⟨v, -, hcmd⟩ | ⟨off, v, -, -, -, rfl⟩
  · exact ⟨_, _, _, _, rfl⟩
  · rcases hostCommand_next hcmd with ⟨i, -, hi⟩ | rfl
    · exact (HostMoves.refl.exec hi).besideOperation hb
    · exact ⟨_, true, _, _, rfl⟩
  · obtain ⟨d, c, heq⟩ := Reg.write_busy (Reg.ofOffset off) v s hb
    exact ⟨_, c, _, _, heq⟩

theorem BesideOperation.handle {e : Event} {s t : State} (he : e.ofHost = true) (hb : s.busy = true) (ht : handle e s = .next t) :
    BesideOperation s t := by
  cases e with
  | host a => exact .hostAccess hb ht
  | request w =>
    obtain ⟨i, -, hi⟩ := issueRequest_next ht
    exact (HostMoves.refl.exec hi).besideOperation hb
  | call c => cases ht; exact ⟨_, _, _, _, rfl⟩
  | software => cases ht; exact HostMoves.refl.softwareTurn.besideOperation hb
  | txAccept | rxByte | tick | reset | arrive _ | lose _ | cycle _ => cases he

/-- Settles O42: the host's events write beside the operation, and Reset ends it. -/
theorem onlyResetEndsAnOperationEarly : Obligations.OnlyResetEndsAnOperationEarly := by
  refine ⟨fun s t e rest ha he hb ht => ?host, fun s rest ha => ⟨_, step_cons s _ rest ha, rfl, rfl, rfl, rfl⟩⟩
  have hof : e.ofHost = true := by rcases he with ⟨a, rfl⟩ | ⟨h, rfl⟩ | ⟨c, rfl⟩ | rfl <;> rfl
  rw [step_cons s e rest ha] at ht
  obtain ⟨d, c, dr, r, rfl⟩ := BesideOperation.handle (s := { s with agenda := rest }) hof hb ht
  exact ⟨hb, rfl, rfl, rfl, rfl, rfl, rfl, rfl, rfl, rfl, { SameOperands.refl s with }, rfl, rfl⟩

/-! #### The handshakes -/

theorem Phase.isWrite_iff {p : Phase} : p.isWrite = true ↔ p = .txHdr ∨ p = .txPayload ∨ p = .txCk := by
  cases p <;> simp [Phase.isWrite]

theorem Phase.isRead_iff {p : Phase} : p.isRead = true ↔ p = .echo ∨ p = .rxHdr ∨ p = .rxPayload ∨ p = .rxCk := by
  cases p <;> simp [Phase.isRead]

theorem Phase.isRead_of_isWrite {p : Phase} (h : p.isWrite = true) : p.isRead = false := by
  cases p <;> simp [Phase.isWrite, Phase.isRead] at h ⊢

theorem State.streams_quiet {s : State} (hp : s.phase = .idle) : s.txValid = false ∧ s.rxReady = false := by
  simp [State.txValid, State.rxReady, hp, Phase.isWrite, Phase.isRead]

theorem State.not_txValid_and_rxReady (s : State) : ¬(s.txValid = true ∧ s.rxReady = true) := by
  rintro ⟨hv, hr⟩
  have hread := Phase.isRead_of_isWrite (State.phase_of_txValid hv).1
  exact absurd ((State.phase_of_rxReady hr).1.symm.trans hread) nofun

/-! #### What moves no byte -/

/-- The bytes on the line and those the transport holds (R30, R44) are the same. -/
structure SameBytes (s t : State) : Prop where
  rxFifo : t.rxFifo = s.rxFifo
  txLine : t.txLine = s.txLine

theorem SameBytes.refl (s : State) : SameBytes s s := ⟨rfl, rfl⟩

theorem SameBytes.trans {s t u : State} (h : SameBytes s t) (h' : SameBytes t u) : SameBytes s u :=
  ⟨h'.rxFifo.trans h.rxFifo, h'.txLine.trans h.txLine⟩

theorem SameBytes.write (r : Reg) (v : Word) (s : State) : SameBytes s (r.write v s) := by
  unfold Reg.write
  split
  · exact ⟨rfl, rfl⟩
  · obtain ⟨_, _, _, _, _, _, _, _, _, _, heq⟩ := r.store_frame v s
    exact heq ▸ ⟨rfl, rfl⟩

theorem SameBytes.issueSend (s : State) : SameBytes s (issueSend s) := by
  rcases issueSend_cases s with ⟨-, heq⟩ | ⟨-, heq | heq⟩ <;> exact heq ▸ ⟨rfl, rfl⟩

/-- A receive command fails, or its first phase begins, whose four bytes are still to come (R100, R101, R113). -/
theorem runRecv_cases (s : State) :
    (∃ e ph, runRecv s = s.latchMode.complete e ph 0#9) ∨
    (∃ e ph, runRecv s = (s.latchMode.beginPhase .rxHdr).complete e ph 0#9) ∨
    (s.lenchk.lenMode ≠ .reserved ∧ runRecv s = s.latchMode.beginPhase .rxHdr) := by
  unfold runRecv
  dsimp only
  split
  · exact .inl ⟨_, _, rfl⟩
  · next hm =>
    rcases State.openPhase_cases .rxHdr afterRxHdr s.latchMode with ⟨h0, -⟩ | ⟨-, -, heq⟩ | ⟨-, -, heq⟩
    · exact absurd h0 (Nat.succ_ne_zero 3)
    · exact .inr (.inl ⟨_, _, heq⟩)
    · exact .inr (.inr ⟨hm, heq⟩)

theorem SameBytes.issueRecv (o : Op) (s : State) : SameBytes s (issueRecv o s) := by
  cases hb : s.busy with
  | true => rw [Machine.issueRecv, admitCommand_busy _ _ _ hb]; exact ⟨rfl, rfl⟩
  | false =>
    rw [Machine.issueRecv, admitCommand_idle _ _ _ hb]
    rcases runRecv_cases (s.accept o) with ⟨_, _, heq⟩ | ⟨_, _, heq⟩ | ⟨-, heq⟩ <;> exact heq ▸ ⟨rfl, rfl⟩

theorem HostMoves.sameBytes {s t : State} (h : HostMoves s t) : SameBytes s t := by
  induction h with
  | refl => exact .refl s
  | setDriver _ d ih => exact { ih with }
  | write _ _ v ih => exact ih.trans (.write _ v _)
  | issueSend _ ih => exact ih.trans (.issueSend _)
  | issueRecv _ o ih => exact ih.trans (.issueRecv o _)

theorem SameBytes.hostAccess {a : HostAccess} {s t : State} (ht : hostAccess a s = .next t) : SameBytes s t := by
  rcases hostAccess_next ht with ⟨off, -, rfl⟩ | ⟨v, -, hcmd⟩ | ⟨off, v, -, -, -, rfl⟩
  · exact ⟨rfl, rfl⟩
  · rcases hostCommand_next hcmd with ⟨i, -, hi⟩ | rfl
    · exact (HostMoves.refl.exec hi).sameBytes
    · exact ⟨rfl, rfl⟩
  · exact .write _ v s

theorem SameBytes.tick (s : State) : SameBytes s (tick s) := by
  by_cases hp : s.phase = .idle
  · rw [tick_idle s hp]; exact .refl s
  · rcases tick_cases s hp with ⟨-, heq⟩ | ⟨-, heq⟩ <;> exact heq ▸ ⟨rfl, rfl⟩

/-! #### What moves a byte -/

/-- Counting a byte, and what follows a phase's last, in any state (R127). -/
theorem sameBytes_advance (s : State) : SameBytes s (advance s) := by
  unfold advance
  dsimp only
  split
  · obtain ⟨hfifo, hline, -⟩ := SameStreams.phaseDone { s with idx := s.idx + 1#9 }
    exact ⟨hfifo, hline⟩
  · exact ⟨rfl, rfl⟩

/-- R127: a byte has gone to the line from a write phase, or come from the transport in a read phase, or none has moved. -/
inductive ByteMoves (s t : State) : Prop
  | none (h : SameBytes s t)
  | sent (valid : s.txValid = true) (h : t.rxFifo = s.rxFifo)
  | taken (ready : s.rxReady = true) (h : t.txLine = s.txLine)

theorem ByteMoves.trans_sameBytes {s t u : State} (h : ByteMoves s t) (h' : SameBytes t u) : ByteMoves s u := by
  cases h with
  | none h => exact .none (h.trans h')
  | sent valid h => exact .sent valid (h'.rxFifo.trans h)
  | taken ready h => exact .taken ready (h'.txLine.trans h)

theorem ByteMoves.txAccept (s : State) : ByteMoves s (txAccept s) := by
  cases hv : s.txValid with
  | false => rw [txAccept_disabled s hv]; exact .none (.refl s)
  | true => exact .sent hv (txAccept_streams hv).2.1

theorem ByteMoves.rxByte (s : State) : ByteMoves s (rxByte s) := by
  cases hr : s.rxReady with
  | false => rw [rxByte_disabled s hr]; exact .none (.refl s)
  | true =>
    cases hf : s.rxFifo with
    | nil => rw [rxByte_empty s hf]; exact .none (.refl s)
    | cons b rest =>
      rw [rxByte_enabled s b rest hf hr]
      exact .taken hr ((sameBytes_advance _).txLine.trans (SameStreams.stage b _).txLine)

/-- R190: in a whole cycle the byte moves first, and neither the tick nor the host's access moves another. -/
theorem ByteMoves.cycleEvent {c : Cycle} {s t : State} (ht : cycleEvent c s = .next t) : ByteMoves s t := by
  have hmoved : ByteMoves s (cycleTransfer c s) := by
    unfold cycleTransfer
    split
    · exact .txAccept s
    · split
      · exact .rxByte s
      · exact .none (.refl s)
  have hticked : ByteMoves s (if c.tick then Machine.tick (cycleTransfer c s) else cycleTransfer c s) := by
    split
    · exact hmoved.trans_sameBytes (.tick _)
    · exact hmoved
  unfold Machine.cycleEvent at ht
  split at ht
  · cases ht; exact .none ⟨rfl, rfl⟩
  · cases hh : c.host with
    | none => rw [hh] at ht; cases ht; exact hticked
    | some a => rw [hh] at ht; exact hticked.trans_sameBytes (.hostAccess ht)

theorem ByteMoves.handle {e : Event} {s t : State} (harrive : ∀ b, e ≠ .arrive b) (hlose : ∀ n, e ≠ .lose n) (ht : handle e s = .next t) :
    ByteMoves s t := by
  cases e with
  | host a => exact .none (.hostAccess ht)
  | request w =>
    obtain ⟨i, -, hi⟩ := issueRequest_next ht
    exact .none (HostMoves.refl.exec hi).sameBytes
  | call c => cases ht; exact .none ⟨rfl, rfl⟩
  | software => cases ht; exact .none HostMoves.refl.softwareTurn.sameBytes
  | txAccept => cases ht; exact .txAccept s
  | rxByte => cases ht; exact .rxByte s
  | tick => cases ht; exact .none (.tick s)
  | reset => cases ht; exact .none ⟨rfl, rfl⟩
  | arrive b => exact absurd rfl (harrive b)
  | lose n => exact absurd rfl (hlose n)
  | cycle c => exact .cycleEvent ht

/-- Settles O41: each handshake has its own phases, and a byte moves on its own handshake only. -/
theorem streamsAreHalfDuplex : Obligations.StreamsAreHalfDuplex := by
  refine ⟨fun s => ⟨s.not_txValid_and_rxReady, fun hv => Phase.isWrite_iff.mp (State.phase_of_txValid hv).1,
    fun hr => Phase.isRead_iff.mp (State.phase_of_rxReady hr).1, State.streams_quiet⟩, fun s t e rest ha harrive hlose ht => ?_⟩
  rw [step_cons s e rest ha] at ht
  cases ByteMoves.handle harrive hlose ht with
  | none h => exact ⟨fun hne => absurd h.txLine hne, fun hne => absurd h.rxFifo hne⟩
  | sent valid h => exact ⟨fun _ => ⟨valid, h⟩, fun hne => absurd h hne⟩
  | taken ready h => exact ⟨fun hne => absurd h hne, fun _ => ⟨ready, h⟩⟩

end Sys2Proof.Machine
end

section
/-!
PROOFS. The transition table (R126): the move each event makes of the sequencer, with its guards and outcomes; the completion of an operation (R123)
is one of them, and the tick budget (R130) goes down with each.
-/

namespace Sys2Proof.Machine

/-! #### The rows of the table -/

/-- R126, the rows `ok` that lead from a phase to another, with their guards; an empty payload phase is passed in the same step (R48). -/
inductive Phase.Leads (txLen rxLen : Byte) (echoEn : Bool) (p q : Phase) : Prop
  | txPayload (hp : p = .txHdr) (hq : q = .txPayload) (guard : txLen ≠ 0#8)
  | noTxPayload (hp : p = .txHdr) (hq : q = .txCk) (guard : txLen = 0#8)
  | txCk (hp : p = .txPayload) (hq : q = .txCk)
  | echo (hp : p = .txCk) (hq : q = .echo) (guard : echoEn = true)
  | rxPayload (hp : p = .rxHdr) (hq : q = .rxPayload) (guard : rxLen ≠ 0#8)
  | noRxPayload (hp : p = .rxHdr) (hq : q = .rxCk) (guard : rxLen = 0#8)
  | rxCk (hp : p = .rxPayload) (hq : q = .rxCk)

/-- R126, the rows that end the operation: the error codes each phase can end with. -/
inductive Phase.EndsWith (echoEn : Bool) (p : Phase) (e : ErrCode) : Prop
  | timeout (hp : p ≠ .idle) (he : e = p.timeoutErr)
  | sent (hp : p = .txCk) (guard : echoEn = false) (he : e = .none)
  | echoed (hp : p = .echo) (he : e = .none ∨ e = .echo)
  | received (hp : p = .rxCk) (he : e = .none ∨ e = .integrity ∨ e = .length)

theorem Phase.Leads.ne_idle {txLen rxLen : Byte} {echoEn : Bool} {p q : Phase} (h : p.Leads txLen rxLen echoEn q) : q ≠ .idle := by
  cases h <;> simp [*]

/-! #### What follows a phase's last byte -/

/-- The rows of the table for a phase whose last byte has moved. -/
inductive AfterLastByte (s t : State) : Prop
  | goesOn (row : s.phase.Leads s.txHdr.len s.rxLen s.ctrl.echoEn t.phase)
  | ends (outcome : s.phase.EndsWith s.ctrl.echoEn t.err) (phase : t.phase = .idle) (done : t.done = true)

/-- The rows are chosen by the phase, the two payload lengths and ECHO_EN alone. -/
theorem AfterLastByte.congr {u s t : State} (h : AfterLastByte u t) (hp : u.phase = s.phase) (htx : u.txHdr = s.txHdr) (hrx : u.rxLen = s.rxLen)
    (hctrl : u.ctrl = s.ctrl) : AfterLastByte s t := by
  cases h with
  | goesOn row => rw [hp, htx, hrx, hctrl] at row; exact .goesOn row
  | ends outcome phase done => rw [hp, hctrl] at outcome; exact .ends outcome phase done

theorem afterLastByte_echo {s : State} (hp : s.phase = .echo) : AfterLastByte s (afterEcho s) := by
  unfold afterEcho
  split
  · exact .ends (.echoed hp (.inl rfl)) rfl rfl
  · exact .ends (.echoed hp (.inr rfl)) rfl rfl

theorem afterLastByte_rxCk {s : State} (hp : s.phase = .rxCk) : AfterLastByte s (finishReceive s) := by
  rcases finishReceive_cases s with ⟨-, heq⟩ | ⟨-, -, heq⟩ | ⟨-, -, heq⟩ <;> rw [heq]
  · exact .ends (.received hp (.inr (.inl rfl))) rfl rfl
  · exact .ends (.received hp (.inr (.inr rfl))) rfl rfl
  · exact .ends (.received hp (.inl rfl)) rfl rfl

section
variable {s : State} (ht : s.timeoutMs ≠ 0#32)
include ht

/-- With time in its window a phase waits, unless it has nothing to move (R44, R45, R48). -/
theorem State.openPhase_in_time (p : Phase) (next : State → State) :
    ((s.beginPhase p).toMove = 0 ∧ s.openPhase p next = next (s.beginPhase p)) ∨
    ((s.beginPhase p).toMove ≠ 0 ∧ s.openPhase p next = s.beginPhase p) := by
  rcases State.openPhase_cases p next s with h | ⟨-, h0, -⟩ | ⟨hmove, -, heq⟩
  · exact .inl h
  · exact absurd h0 ht
  · exact .inr ⟨hmove, heq⟩

theorem afterTxPayload_in_time : afterTxPayload s = s.beginPhase .txCk := State.openPhase_wait .txCk _ s (Nat.succ_ne_zero 0) ht

theorem afterRxPayload_in_time : afterRxPayload s = s.beginPhase .rxCk := State.openPhase_wait .rxCk _ s (Nat.succ_ne_zero 0) ht

theorem afterLastByte_txHdr (hp : s.phase = .txHdr) : AfterLastByte s (afterTxHdr s) := by
  rcases State.openPhase_in_time ht .txPayload afterTxPayload with ⟨hempty, heq⟩ | ⟨hmove, heq⟩ <;> rw [afterTxHdr, heq]
  · rw [afterTxPayload_in_time (s := s.beginPhase .txPayload) ht]
    exact .goesOn (.noTxPayload hp rfl (BitVec.toNat_inj.mp hempty))
  · exact .goesOn (.txPayload hp rfl fun h0 => hmove (congrArg BitVec.toNat h0))

theorem afterLastByte_txCk (hp : s.phase = .txCk) : AfterLastByte s (afterTxCk s) := by
  unfold afterTxCk
  split
  · next hecho =>
    have hmove : (s.beginPhase .echo).toMove ≠ 0 := by simp [State.toMove, State.toMoveIn]
    rw [State.openPhase_wait .echo _ s hmove ht]
    exact .goesOn (.echo hp rfl hecho)
  · next hecho => exact .ends (.sent hp (by simpa using hecho) rfl) rfl rfl

theorem afterLastByte_rxHdr (hp : s.phase = .rxHdr) : AfterLastByte s (afterRxHdr s) := by
  rcases State.openPhase_in_time ht .rxPayload afterRxPayload with ⟨hempty, heq⟩ | ⟨hmove, heq⟩ <;> rw [afterRxHdr, heq]
  · rw [afterRxPayload_in_time (s := s.beginPhase .rxPayload) ht]
    exact .goesOn (.noRxPayload hp rfl (BitVec.toNat_inj.mp hempty))
  · exact .goesOn (.rxPayload hp rfl fun h0 => hmove (congrArg BitVec.toNat h0))

theorem afterLastByte_phaseDone (hidle : s.phase ≠ .idle) : AfterLastByte s (phaseDone s) := by
  unfold phaseDone
  cases hp : s.phase with
  | idle => exact absurd hp hidle
  | txHdr => exact afterLastByte_txHdr ht hp
  | txPayload => exact afterTxPayload_in_time ht ▸ .goesOn (.txCk hp rfl)
  | txCk => exact afterLastByte_txCk ht hp
  | echo => exact afterLastByte_echo hp
  | rxHdr => exact afterLastByte_rxHdr ht hp
  | rxPayload => exact afterRxPayload_in_time ht ▸ .goesOn (.rxCk hp rfl)
  | rxCk => exact afterLastByte_rxCk hp

/-- A counted byte leads on only as its phase's last. -/
theorem advance_moves (hidle : s.phase ≠ .idle) (left : s.idx.toNat < s.toMove) :
    (s.idx.toNat + 1 = s.toMove ∧ AfterLastByte s (advance s)) ∨ advance s = { s with idx := s.idx + 1#9 } := by
  rcases advance_cases s left with ⟨hlast, heq⟩ | ⟨-, heq⟩
  · have hdone := afterLastByte_phaseDone (s := { s with idx := s.idx + 1#9 }) ht hidle
    exact .inl ⟨hlast, heq ▸ hdone.congr rfl rfl rfl rfl⟩
  · exact .inr heq

end

/-! #### The move of a step -/

/-- R126: what an event other than Reset and a whole cycle does to the sequencer. -/
inductive SequencerMove (e : Event) (s t : State) : Prop
  | stays (phase : t.phase = s.phase) (elapsed : s.phase ≠ .idle → t.elapsed.toNat = s.elapsed.toNat + if e = .tick then 1 else 0)
  | begins (idle : s.phase = .idle) (event : (∃ a, e = .host a) ∨ (∃ h, e = .request h) ∨ e = .software)
      (phase : t.phase = .txHdr ∨ (t.phase = .rxHdr ∧ t.lenchk.lenMode ≠ .reserved))
  | goesOn (last : s.idx.toNat + 1 = s.toMove) (event : e = if s.phase.isWrite then .txAccept else .rxByte)
      (row : s.phase.Leads s.txHdr.len s.rxLen s.ctrl.echoEn t.phase)
  | ends (outcome : s.phase.EndsWith s.ctrl.echoEn t.err) (phase : t.phase = .idle) (done : t.done = true) (ctrl : t.ctrl = s.ctrl)

theorem AfterLastByte.sequencerMove {e : Event} {s t : State} (h : AfterLastByte s t) (last : s.idx.toNat + 1 = s.toMove)
    (event : e = if s.phase.isWrite then .txAccept else .rxByte) (ctrl : t.ctrl = s.ctrl) : SequencerMove e s t := by
  cases h with
  | goesOn row => exact .goesOn last event row
  | ends outcome phase done => exact .ends outcome phase done ctrl

theorem Inv.ne_idle_of_busy {s : State} (h : Inv s) (hb : s.busy = true) : s.phase ≠ .idle :=
  have ⟨hbusy, _⟩ := h.sequencer
  hbusy.mp hb

/-- R47: in a phase bytes are left to move, and time is left. -/
theorem Inv.waits {s : State} (h : Inv s) (hp : s.phase ≠ .idle) : s.idx.toNat < s.toMove ∧ s.elapsed.toNat < s.timeoutMs.toNat :=
  have ⟨_, _, _, hwait⟩ := h.sequencer
  hwait hp

/-- Before the last byte of a phase the received length byte stands already, if a frame is received at all (R63). -/
theorem EngineOk.rxLen_stage_last {s : State} (h : EngineOk s) (last : s.idx.toNat + 1 = s.toMove) (b : Byte) : (s.stage b).rxLen = s.rxLen := by
  cases h with
  | idle h => simp [State.stage_eq, State.rxLen, h.phase, Phase.ofRecv]
  | sending h _ => simp [State.stage_eq, State.rxLen, Bool.eq_false_iff.mpr (Phase.not_ofRecv_of_ofSend h.phase)]
  | receiving h _ =>
    by_cases hp : s.phase = .rxHdr
    · have hstaged := h.staged
      simp only [State.toMove, State.toMoveIn, State.framedBefore, hp] at last hstaged
      simp only [State.stage_eq, State.rxLen, h.phase, if_true]
      exact getD_one_append (by omega) b
    · exact h.rxLen_stage hp b

section
variable {s : State} (h : Inv s) (hp : s.phase ≠ .idle)
include h hp

theorem Inv.timeoutMs_ne_zero : s.timeoutMs ≠ 0#32 := fun h0 =>
  absurd (h.waits hp).2 (by simp [h0])

theorem SequencerMove.txAccept : SequencerMove .txAccept s (txAccept s) := by
  cases hv : s.txValid with
  | false => rw [txAccept_disabled s hv]; exact .stays rfl fun _ => rfl
  | true =>
    obtain ⟨hw, left⟩ := State.phase_of_txValid hv
    have hctrl := (EngineFrame.refl s).txAccept.ctrl
    rw [txAccept_enabled s hv] at hctrl ⊢
    rcases advance_moves (s := { s with txLine := s.txLine ++ [s.txData] }) (h.timeoutMs_ne_zero hp) hp left with ⟨hlast, hafter⟩ | heq
    · exact (hafter.congr rfl rfl rfl rfl : AfterLastByte s _).sequencerMove hlast (if_pos hw).symm hctrl
    · exact heq ▸ .stays rfl fun _ => rfl

theorem SequencerMove.rxByte : SequencerMove .rxByte s (rxByte s) := by
  cases hv : s.rxReady with
  | false => rw [rxByte_disabled s hv]; exact .stays rfl fun _ => rfl
  | true =>
    cases hf : s.rxFifo with
    | nil => rw [rxByte_empty s hf]; exact .stays rfl fun _ => rfl
    | cons b fifo =>
      obtain ⟨hr, left⟩ := State.phase_of_rxReady hv
      have hw : s.phase.isWrite ≠ true := fun hw => absurd (hr.symm.trans (Phase.isRead_of_isWrite hw)) nofun
      have hctrl := (EngineFrame.refl s).rxByte.ctrl
      have heng : EngineOk { s with rxFifo := fifo } := h.engineOk.setRxFifo fifo
      have hstage := ((EngineFrame.refl s).setRxFifo fifo).stage b
      have hphase : ({ s with rxFifo := fifo }.stage b).phase = s.phase := State.stage_phase _ _
      have hidx : ({ s with rxFifo := fifo }.stage b).idx = s.idx := State.stage_idx _ _
      have hmove : ({ s with rxFifo := fifo }.stage b).toMove = s.toMove := heng.toMove_stage b
      rw [rxByte_enabled s b fifo hf hv] at hctrl ⊢
      rcases advance_moves (s := { s with rxFifo := fifo }.stage b) (by rw [hstage.timeoutMs]; exact h.timeoutMs_ne_zero hp) (by rw [hphase]; exact hp)
        (by rw [hidx, hmove]; exact left) with ⟨hlast, hafter⟩ | heq
      · rw [hidx, hmove] at hlast
        exact (hafter.congr hphase hstage.txHdr (heng.rxLen_stage_last hlast b) hstage.ctrl).sequencerMove hlast (if_neg hw).symm hctrl
      · rw [heq]
        exact .stays hphase fun _ => congrArg BitVec.toNat (State.stage_elapsed b _)

theorem SequencerMove.tick : SequencerMove .tick s (tick s) := by
  obtain ⟨-, window⟩ := h.waits hp
  rcases tick_cases s hp with ⟨-, heq⟩ | ⟨-, heq⟩ <;> rw [heq]
  · exact .ends (.timeout hp rfl) rfl rfl rfl
  · have hsucc : (s.elapsed + 1#32).toNat = s.elapsed.toNat + 1 := by bv_omega
    exact .stays rfl fun _ => hsucc

end

theorem SequencerMove.lineEvent {e : Event} {s t : State} (h : Inv s) (he : e.isLineEvent = true) (ht : handle e s = .next t) :
    SequencerMove e s t := by
  by_cases hp : s.phase = .idle
  · obtain ⟨fifo, heq⟩ := handle_lineEvent_idle he hp
    cases heq.symm.trans ht
    exact .stays rfl fun hne => absurd hp hne
  · cases e with
    | txAccept => cases ht; exact .txAccept h hp
    | rxByte => cases ht; exact .rxByte h hp
    | tick => cases ht; exact .tick h hp
    | arrive _ | lose _ => cases ht; exact .stays rfl fun _ => rfl
    | host _ | request _ | call _ | software | reset | cycle _ => cases he

/-! #### What begins an operation -/

/-- R120: the engine after moves of the host from the idle one: idle, or an operation has begun and waits in its first phase. -/
inductive AtMostBegun (t : State) : Prop
  | idle (busy : t.busy = false) (phase : t.phase = .idle)
  | sending (busy : t.busy = true) (phase : t.phase = .txHdr)
  | receiving (busy : t.busy = true) (phase : t.phase = .rxHdr) (lenMode : t.lenchk.lenMode ≠ .reserved)

namespace AtMostBegun

variable {s : State}

theorem setCmdErr (h : AtMostBegun s) : AtMostBegun s.setCmdErr := by
  cases h with
  | idle hb hp => exact .idle hb hp
  | sending hb hp => exact .sending hb hp
  | receiving hb hp hm => exact .receiving hb hp hm

theorem setOutside (h : AtMostBegun s) (d : Driver) (r : Word) : AtMostBegun { s with driver := d, rdata := r } := by
  cases h with
  | idle hb hp => exact .idle hb hp
  | sending hb hp => exact .sending hb hp
  | receiving hb hp hm => exact .receiving hb hp hm

/-- LENCHK is locked once an operation runs (R54). -/
theorem write (h : AtMostBegun s) (r : Reg) (v : Word) : AtMostBegun (r.write v s) := by
  cases h with
  | idle hb hp =>
    obtain ⟨_, _, _, _, _, _, _, _, _, _, heq⟩ := r.store_frame v s
    rw [Reg.write_idle r v s hb, heq]
    exact .idle hb hp
  | sending hb hp => obtain ⟨d, c, heq⟩ := Reg.write_busy r v s hb; rw [heq]; exact .sending hb hp
  | receiving hb hp hm => obtain ⟨d, c, heq⟩ := Reg.write_busy r v s hb; rw [heq]; exact .receiving hb hp hm

theorem issueSend (h : AtMostBegun s) : AtMostBegun (issueSend s) := by
  rcases issueSend_cases s with ⟨-, heq⟩ | ⟨-, heq | heq⟩ <;> rw [heq]
  · exact h.setCmdErr
  · exact .sending rfl rfl
  · exact .idle rfl rfl

theorem issueRecv (h : AtMostBegun s) (o : Op) : AtMostBegun (issueRecv o s) := by
  cases hb : s.busy with
  | true => rw [Machine.issueRecv, admitCommand_busy _ _ _ hb]; exact h.setCmdErr
  | false =>
    rw [Machine.issueRecv, admitCommand_idle _ _ _ hb]
    rcases runRecv_cases (s.accept o) with ⟨_, _, heq⟩ | ⟨_, _, heq⟩ | ⟨hm, heq⟩ <;> rw [heq]
    · exact .idle rfl rfl
    · exact .idle rfl rfl
    · exact .receiving rfl rfl hm

theorem hostMoves {t : State} (h : AtMostBegun s) (ht : HostMoves s t) : AtMostBegun t := by
  induction ht with
  | refl => exact h
  | setDriver _ d ih => exact ih.setOutside d _
  | write _ _ v ih => exact ih.write _ v
  | issueSend _ ih => exact ih.issueSend
  | issueRecv _ o ih => exact ih.issueRecv o

theorem hostAccess {a : HostAccess} {t : State} (h : AtMostBegun s) (ht : hostAccess a s = .next t) : AtMostBegun t := by
  rcases hostAccess_next ht with ⟨off, -, rfl⟩ | ⟨v, -, hcmd⟩ | ⟨off, v, -, -, -, rfl⟩
  · exact h.setOutside _ _
  · rcases hostCommand_next hcmd with ⟨i, -, hi⟩ | rfl
    · exact h.hostMoves (HostMoves.refl.exec hi)
    · exact h.setCmdErr
  · exact h.write _ v

theorem sequencerMove {e : Event} {t : State} (h : AtMostBegun t) (idle : s.phase = .idle)
    (event : (∃ a, e = .host a) ∨ (∃ w, e = .request w) ∨ e = .software) : SequencerMove e s t := by
  cases h with
  | idle _ hp => exact .stays (hp.trans idle.symm) fun hne => absurd idle hne
  | sending _ hp => exact .begins idle event (.inl hp)
  | receiving _ hp hm => exact .begins idle event (.inr ⟨hp, hm⟩)

end AtMostBegun

theorem SequencerMove.ofHost {e : Event} {s t : State} (h : Inv s) (he : e.ofHost = true) (ht : handle e s = .next t) : SequencerMove e s t := by
  by_cases hp : s.phase = .idle
  · have hbusy : s.busy = false := by
      obtain ⟨hbusy, -⟩ := h.sequencer
      simpa [hp] using hbusy
    have hs : AtMostBegun s := .idle hbusy hp
    cases e with
    | host a => exact (hs.hostAccess ht).sequencerMove hp (.inl ⟨a, rfl⟩)
    | request w =>
      obtain ⟨i, -, hi⟩ := issueRequest_next ht
      exact (hs.hostMoves (HostMoves.refl.exec hi)).sequencerMove hp (.inr (.inl ⟨w, rfl⟩))
    | call c => cases ht; exact .stays rfl fun hne => absurd hp hne
    | software => cases ht; exact (hs.hostMoves HostMoves.refl.softwareTurn).sequencerMove hp (.inr (.inr rfl))
    | txAccept | rxByte | tick | reset | arrive _ | lose _ | cycle _ => cases he
  · have hne : e ≠ .tick := by rintro rfl; cases he
    obtain ⟨d, c, dr, r, rfl⟩ := BesideOperation.handle he (h.busy_of_ne_idle hp) ht
    exact .stays rfl fun _ => by rw [if_neg hne]; rfl

theorem SequencerMove.of_handle {e : Event} {s t : State} (h : Inv s) (hreset : e ≠ .reset) (hcycle : ∀ c, e ≠ .cycle c) (ht : handle e s = .next t) :
    SequencerMove e s t := by
  cases e with
  | host _ | request _ | call _ | software => exact .ofHost h rfl ht
  | txAccept | rxByte | tick | arrive _ | lose _ => exact .lineEvent h rfl ht
  | reset => exact absurd rfl hreset
  | cycle c => exact absurd rfl (hcycle c)

theorem SequencerMove.of_step {s t : State} {e : Event} {rest : List Event} (h : Inv s) (ha : s.agenda = e :: rest) (hreset : e ≠ .reset)
    (hcycle : ∀ c, e ≠ .cycle c) (ht : step s = .next t) : SequencerMove e s t := by
  rw [step_cons s e rest ha] at ht
  cases SequencerMove.of_handle (h.setAgenda rest) hreset hcycle ht with
  | stays phase elapsed => exact .stays phase elapsed
  | begins idle event phase => exact .begins idle event phase
  | goesOn last event row => exact .goesOn last event row
  | ends outcome phase done ctrl => exact .ends outcome phase done ctrl

/-! #### The table's statement -/

theorem phaseMove_self (p : Phase) : phaseMove p p = true := by cases p <;> rfl

/-- Settles O48: each of the sequencer's moves by the rows it takes. -/
theorem sequencerMovesAsTheTableSays : Obligations.SequencerMovesAsTheTableSays := by
  intro s t e rest hinv ha hcycle ht
  split
  · next hreset => subst hreset; cases (step_cons s _ rest ha).symm.trans ht; rfl
  · next hreset =>
    have hmove := SequencerMove.of_step hinv ha hreset hcycle ht
    clear hinv ha hcycle ht hreset
    cases hmove with
    | stays phase _ =>
      refine ⟨by rw [phase]; exact phaseMove_self _, fun hs hne => absurd (phase.trans hs) hne, fun _ _ hne => absurd phase hne, ?_⟩
      rw [phase]
      cases s.phase <;> simp
    | begins idle event phase =>
      rcases phase with hp | ⟨hp, hm⟩
      · simp [idle, hp, event, phaseMove]
      · simp [idle, hp, hm, event, phaseMove]
    | goesOn last event row =>
      subst event
      rw [State.rxLen] at row
      cases row <;> simp_all [phaseMove]
    | ends outcome phase done ctrl =>
      cases outcome with
      | timeout hp he => cases hs : s.phase <;> simp_all [phaseMove, Phase.timeoutErr]
      | sent hp guard he => simp [*, phaseMove]
      | echoed hp he => rcases he with he | he <;> simp [*, phaseMove]
      | received hp he => rcases he with he | he | he <;> simp [*, phaseMove]

/-! #### Completion (R123) -/

/-- Settles O39: of the moves only the table's last rows lead from a phase to IDLE, and the invariant says how the idle engine looks. -/
theorem completionIsOneStep : Obligations.CompletionIsOneStep := by
  intro s t e rest hinv ha hreset hcycle hb ht hbt
  have hidle : Idle t := (everyStepKeepsTheInvariant s t hinv ht).engineOk.idle_of_not_busy hbt
  have hp := hinv.ne_idle_of_busy hb
  cases SequencerMove.of_step hinv ha hreset hcycle ht with
  | stays phase _ => exact absurd (phase.symm.trans hidle.phase) hp
  | begins idle _ _ => exact absurd idle hp
  | goesOn _ _ row => exact absurd hidle.phase row.ne_idle
  | ends _ _ done ctrl =>
    obtain ⟨htx, hrx⟩ := State.streams_quiet hidle.phase
    exact ⟨done, hidle.phase, hidle.idx, hidle.elapsed, htx, hrx, hidle.outcome.record, by simp [State.irq, done, ctrl]⟩

/-! #### The tick budget (R130) -/

theorem State.windowsLeft_le (s : State) : s.windowsLeft ≤ if s.phase.ofSend = true ∧ s.ctrl.echoEn = true then 4 else 3 := by
  rw [State.windowsLeft]
  cases s.phase <;> cases s.ctrl.echoEn <;> decide

theorem State.windowsLeft_pos {s : State} (hp : s.phase ≠ .idle) : 0 < s.windowsLeft := by
  rw [State.windowsLeft]
  cases hs : s.phase
  case idle => exact absurd hs hp
  all_goals cases s.ctrl.echoEn <;> decide

/-- R126: each transition uses up a window. -/
theorem Phase.Leads.windowsLeft_lt {txLen rxLen : Byte} {s t : State} (hc : t.ctrl = s.ctrl) (h : s.phase.Leads txLen rxLen s.ctrl.echoEn t.phase) :
    t.windowsLeft < s.windowsLeft := by
  rw [State.windowsLeft, State.windowsLeft, hc]
  cases h <;> simp only [*] <;> cases s.ctrl.echoEn <;> decide

theorem State.tickBudget_of_ne_idle {s : State} (hp : s.phase ≠ .idle) :
    s.tickBudget = (s.timeoutMs.toNat - s.elapsed.toNat) + (s.windowsLeft - 1) * (s.timeoutMs.toNat - 1) := if_neg hp

/-- R130: every window tolerates at most TIMEOUT_MS - 1 ticks, and the last one ends on its TIMEOUT_MS-th. -/
theorem Inv.tickBudget_lt {s : State} (h : Inv s) (hp : s.phase ≠ .idle) :
    s.tickBudget < (if s.phase.ofSend = true ∧ s.ctrl.echoEn = true then 4 else 3) * s.timeoutMs.toNat := by
  obtain ⟨-, window⟩ := h.waits hp
  have hwindows := Nat.mul_le_mul_right (s.timeoutMs.toNat - 1) (Nat.sub_le_sub_right s.windowsLeft_le 1)
  rw [State.tickBudget_of_ne_idle hp]
  split_ifs at hwindows ⊢ <;> omega

theorem Inv.tickBudget_pos {s : State} (h : Inv s) (hp : s.phase ≠ .idle) : 0 < s.tickBudget := by
  obtain ⟨-, window⟩ := h.waits hp
  rw [State.tickBudget_of_ne_idle hp]
  omega

/-- R130: a step of a running operation that does not end it uses up its tick, and opens a window only in place of another. -/
theorem SequencerMove.tickBudget_le {e : Event} {s t : State} (h : SequencerMove e s t) (hs : Inv s) (hp : s.phase ≠ .idle) (ht : Inv t)
    (hq : t.phase ≠ .idle) (hctrl : t.ctrl = s.ctrl) (htime : t.timeoutMs = s.timeoutMs) :
    t.tickBudget + (if e = .tick then 1 else 0) ≤ s.tickBudget := by
  obtain ⟨-, hswindow⟩ := hs.waits hp
  obtain ⟨-, htwindow⟩ := ht.waits hq
  rw [State.tickBudget_of_ne_idle hp, State.tickBudget_of_ne_idle hq, htime]
  rw [htime] at htwindow
  cases h with
  | stays phase elapsed =>
    have hwindows : t.windowsLeft = s.windowsLeft := by rw [State.windowsLeft, State.windowsLeft, phase, hctrl]
    have helapsed := elapsed hp
    rw [hwindows]
    omega
  | begins idle _ _ => exact absurd idle hp
  | goesOn _ event row =>
    have hne : e ≠ .tick := by rw [event]; split <;> nofun
    have hpos := State.windowsLeft_pos hq
    have hlt := row.windowsLeft_lt hctrl
    have hwindows : (t.windowsLeft - 1) * (s.timeoutMs.toNat - 1) + (s.timeoutMs.toNat - 1) ≤ (s.windowsLeft - 1) * (s.timeoutMs.toNat - 1) := by
      rw [← Nat.succ_mul]
      exact Nat.mul_le_mul_right _ (by omega)
    rw [if_neg hne]
    omega
  | ends _ phase _ _ => exact absurd phase hq

/-- R130: by induction on the events to come, of which each tick takes one off the budget. -/
theorem completes_within_budget (events : List Event) {s : State} (h : Inv s) (hb : s.busy = true) (ha : s.agenda = events)
    (hline : ∀ e ∈ events, e.isLineEvent = true) (hticks : s.tickBudget ≤ tickCount events) :
    ∃ k t, k ≤ events.length ∧ steps k s = .next t ∧ t.busy = false ∧ t.done = true := by
  have hp := h.ne_idle_of_busy hb
  induction events generalizing s with
  | nil => exact absurd hticks (Nat.not_le_of_lt (h.tickBudget_pos hp))
  | cons e rest ih =>
    have he : e.isLineEvent = true := hline e List.mem_cons_self
    obtain ⟨t, hhandle, hframe⟩ := handle_lineEvent he { s with agenda := rest }
    have hstep : step s = .next t := (step_cons s e rest ha).trans hhandle
    have ht : Inv t := everyStepKeepsTheInvariant s t h hstep
    have hreset : e ≠ .reset := by rintro rfl; cases he
    have hcycle (c : Cycle) : e ≠ .cycle c := by rintro rfl; cases he
    cases hbt : t.busy with
    | false =>
      obtain ⟨hdone, -⟩ := completionIsOneStep s t e rest h ha hreset hcycle hb hstep hbt
      exact ⟨1, t, Nat.succ_le_succ (Nat.zero_le _), steps_succ hstep 0, hbt, hdone⟩
    | true =>
      have hq := ht.ne_idle_of_busy hbt
      have hbudget := (SequencerMove.of_step h ha hreset hcycle hstep).tickBudget_le h hp ht hq hframe.ctrl hframe.timeoutMs
      have hleft : t.tickBudget ≤ tickCount rest := by rw [tickCount] at hticks; omega
      obtain ⟨k, u, hk, hsteps, hdone⟩ := ih ht hbt hframe.agenda (fun e' he' => hline e' (List.mem_cons_of_mem e he')) hleft hq
      exact ⟨k + 1, u, Nat.succ_le_succ hk, (steps_succ hstep k).trans hsteps, hdone⟩

/-- Settles O49: the bound on the budget, and the induction on the agenda. -/
theorem everyOperationCompletes : Obligations.EveryOperationCompletes :=
  ⟨fun _ h hb => h.tickBudget_lt (h.ne_idle_of_busy hb), fun _ h hb hline hticks => completes_within_budget _ h hb rfl hline hticks⟩

end Sys2Proof.Machine
end

section
/-!
PROOFS. The frame of the seven requests (R67, R70): what XCHG's operand writes and SEND leave alone, with the engine idle and while BUSY.
-/

namespace Sys2Proof.Machine

/-! #### The driver after a request (R146) -/

theorem Driver.afterRequest_frame (d : Driver) (recvOp : Option Op) :
    (d.afterRequest recvOp).job = d.job ∧ (d.afterRequest recvOp).calls = d.calls ∧ (d.afterRequest recvOp).devices = d.devices ∧
      (d.afterRequest recvOp).result = d.result := by
  unfold Driver.afterRequest
  split <;> exact ⟨rfl, rfl, rfl, rfl⟩

theorem Driver.afterRequest_of_owned {d : Driver} (h : d.exch.inProgress = true ∨ (d.job ≠ .idle ∧ d.exch ≠ .none)) (recvOp : Option Op) :
    d.afterRequest recvOp = d := by
  have howned : d.exchangeOwned = true := by
    rcases h with h | ⟨hj, hx⟩
    · simp [Driver.exchangeOwned, h]
    · simp [Driver.exchangeOwned, hj, hx]
  exact if_pos howned

/-! #### A request while BUSY (R54, R121) -/

section
variable {s : State} (hb : s.busy = true)
include hb

theorem writeTxHdr_busy (dest len method : Byte) : writeTxHdr dest len method s = s.setCmdErr := Reg.write_locked _ _ _ rfl hb

theorem writeOperands_busy (dest len method : Byte) (plan : ReplyPlan) : writeOperands dest len method plan s = s.setCmdErr := by
  have hb' : s.setCmdErr.busy = true := hb
  rw [writeOperands, writeTxHdr_busy hb, Reg.write_locked .rxSrcExpect _ _ rfl hb', Reg.write_locked .lenchk _ s.setCmdErr.setCmdErr rfl hb']
  rfl

theorem noteSending_issueSend_busy (recvOp : Option Op) :
    noteSending recvOp (issueSend s.setCmdErr) = { s with cmdErr := true, driver := s.driver.afterRequest recvOp } := by
  rw [noteSending_eq, issueSend, admitCommand_busy _ _ s.setCmdErr hb]
  rfl

/-- R54, R121 a: the operand writes and SEND are all refused. -/
theorem exec_request_busy {i : Instr} (hi : i.isRequest = true) :
    ∃ recvOp, exec i s = .next { s with cmdErr := true, driver := s.driver.afterRequest recvOp } := by
  cases i with
  | nop | send | recv | recvStatus | recvData => cases hi
  | mReset dest len src => exact ⟨none, by rw [exec, execMReset, writeTxHdr_busy hb, noteSending_issueSend_busy hb]⟩
  | mCommsRev dest len | mRdMinh dest len | mModMinh dest len | mRdCredit dest len | mRdInh dest len | mModInh dest len =>
    have hrequest (method : Byte) (plan : ReplyPlan) :
        request dest len method plan s = { s with cmdErr := true, driver := s.driver.afterRequest (some plan.recvOp) } := by
      rw [request, writeOperands_busy hb, noteSending_issueSend_busy hb]
    exact ⟨_, congrArg Host.Outcome.next (hrequest _ _)⟩

end

/-! #### A request with the engine idle (R70) -/

/-- R70, whatever TIMEOUT_MS is: three operand registers are written, of which M_RESET writes TX_HDR alone (assumption 8), and SEND is issued. -/
theorem exec_request_writes {i : Instr} {s : State} (hi : i.isRequest = true) (hb : s.busy = false) :
    ∃ recvOp hdr x l,
      exec i s = .next { issueSend { s with txHdr := hdr, rxSrcExpect := x, lenchk := l } with driver := s.driver.afterRequest recvOp } ∧
      (∀ dest len src, i = .mReset dest len src → x = s.rxSrcExpect ∧ l = s.lenchk) := by
  cases i with
  | nop | send | recv | recvStatus | recvData => cases hi
  | mReset dest len src =>
    refine ⟨none, ⟨dest, len, Config.methodReset⟩, s.rxSrcExpect, s.lenchk, ?_, fun _ _ _ _ => ⟨rfl, rfl⟩⟩
    rw [exec, execMReset, writeTxHdr_idle hb, noteSending_eq, issueSend_driver]
  | mCommsRev dest len | mRdMinh dest len | mModMinh dest len | mRdCredit dest len | mRdInh dest len | mModInh dest len =>
    have hrequest (method : Byte) (plan : ReplyPlan) :
        request dest len method plan s =
          { issueSend { s with txHdr := ⟨dest, len, method⟩, rxSrcExpect := dest, lenchk := ⟨plan.expLen, plan.lenMode⟩ } with
            driver := s.driver.afterRequest (some plan.recvOp) } := by
      rw [request, writeOperands_idle hb, noteSending_eq, issueSend_driver]
    exact ⟨_, _, _, _, congrArg Host.Outcome.next (hrequest _ _), nofun⟩

/-- R90: an issued SEND leaves the operands, all that a receive left, and all that no command changes. -/
theorem issueSend_frame (s : State) : SameOperands s (issueSend s) ∧ SameReceived s (issueSend s) ∧ CommandFrame s (issueSend s) :=
  ⟨.exec_command (i := .send) rfl rfl, (issueSend_received s).1.sameReceived, .issueSend s⟩

/-- Settles O29: while BUSY every access is refused; with the engine idle the frame is SEND's own, beside the three operand registers. -/
theorem requestsLeaveTheRestAlone : Obligations.RequestsLeaveTheRestAlone := by
  intro i s t hi ht
  rcases Bool.eq_false_or_eq_true s.busy with hb | hb
  case inl =>
    obtain ⟨recvOp, heq⟩ := exec_request_busy hb hi
    obtain rfl : _ = t := Host.Outcome.next.inj (heq.symm.trans ht)
    obtain ⟨hjob, hcalls, hdevices, hresult⟩ := s.driver.afterRequest_frame recvOp
    exact ⟨rfl, rfl, rfl, rfl, fun _ => rfl, { SameReceived.refl s with }, ⟨rfl, rfl, rfl, rfl, rfl⟩, hjob, hcalls, hdevices, hresult,
      fun hidle => absurd (hb.symm.trans hidle) nofun, fun _ _ _ _ => ⟨rfl, rfl⟩, fun _ => rfl,
      fun howned => Driver.afterRequest_of_owned howned recvOp⟩
  case inr =>
    obtain ⟨recvOp, hdr, x, l, heq, hreset⟩ := exec_request_writes hi hb
    obtain rfl : _ = t := Host.Outcome.next.inj (heq.symm.trans ht)
    obtain ⟨hjob, hcalls, hdevices, hresult⟩ := s.driver.afterRequest_frame recvOp
    obtain ⟨hoperands, hreceived, hcommand⟩ := issueSend_frame { s with txHdr := hdr, rxSrcExpect := x, lenchk := l }
    refine ⟨hoperands.ctrl, hoperands.ownAddr, hoperands.timeoutMs, hoperands.dbufLen, fun a => congrArg (Memory.read · a) hcommand.mem,
      { hreceived with }, { hcommand.toSameOutside with }, hjob, hcalls, hdevices, hresult, fun _ => hcommand.cmdErr hb, fun dest len src hi => ?reset,
      fun hbusy => absurd (hb.symm.trans hbusy) nofun, fun howned => Driver.afterRequest_of_owned howned recvOp⟩
    obtain ⟨hx, hl⟩ := hreset dest len src hi
    exact ⟨hoperands.rxSrcExpect.trans hx, hoperands.lenchk.trans hl⟩

end Sys2Proof.Machine
end

section
/-!
PROOFS. The driver's operations (R135 to R146): the Device records, the exchange an operation starts, and the turns in which it takes the exchange's result.
-/

namespace Sys2Proof.Machine

/-! #### The Device records (R135) -/

theorem findDevice_address {ds : List Device} {a : Byte} {d : Device} (h : findDevice ds a = some d) : d.address = a := by
  induction ds with
  | nil => cases h
  | cons x ds ih =>
    rw [findDevice] at h
    split at h
    · next hx => cases h; exact hx
    · exact ih h

theorem findDevice_cons_same (d : Device) (ds : List Device) : findDevice (d :: ds) d.address = some d := if_pos rfl

theorem findDevice_cons_other {d : Device} {a : Byte} (h : d.address ≠ a) (ds : List Device) : findDevice (d :: ds) a = findDevice ds a := if_neg h

theorem findDevice_putDevice_same (ds : List Device) (d : Device) : findDevice (putDevice ds d) d.address = some d := by
  induction ds with
  | nil => exact findDevice_cons_same d []
  | cons x ds ih =>
    rw [putDevice]
    split
    · exact findDevice_cons_same d _
    · split
      · exact findDevice_cons_same d ds
      · next hne => rw [findDevice_cons_other (Ne.symm hne), ih]

theorem findDevice_putDevice_other (ds : List Device) {d : Device} {a : Byte} (h : d.address ≠ a) :
    findDevice (putDevice ds d) a = findDevice ds a := by
  induction ds with
  | nil => exact findDevice_cons_other h []
  | cons x ds ih =>
    rw [putDevice]
    split
    · exact findDevice_cons_other h _
    · split
      · next heq => rw [findDevice_cons_other h, findDevice_cons_other (heq ▸ h)]
      · rw [findDevice, findDevice, ih]

/-! #### The exchange an operation starts (R70) -/

theorem writePayload_idle {s : State} (hb : s.busy = false) (i : Nat) (p : List Byte) :
    writePayload i p s = { s with mem := s.mem.writeElems (txPayloadBase + 4 * i) p } := by
  induction p generalizing i s with
  | nil => rfl
  | cons b bs ih =>
    rw [writePayload, Reg.write_idle _ _ _ hb, Reg.store, byte0_wordOfByte, ih (s := { s with mem := s.mem.write (txPayloadBase + 4 * i) b }) hb]
    rfl

/-- What the driver has written for operation `j` before SEND: XCHG's operands, over the payload `p`, and its own bookkeeping (R70). -/
def State.prepared (s : State) (j : Job) (dest method : Byte) (p : List Byte) (plan : ReplyPlan) : State :=
  { s with
    mem := s.mem.writeElems txPayloadBase p
    txHdr := ⟨dest, BitVec.ofNat 8 p.length, method⟩
    rxSrcExpect := dest
    lenchk := ⟨plan.expLen, plan.lenMode⟩
    driver := { s.driver with exch := .sending (some plan.recvOp), job := j } }

/-- R70: with the engine idle SEND is accepted, over the frame of the operands written. -/
theorem startExchange_setJob_idle {s : State} (hb : s.busy = false) (ht : s.timeoutMs ≠ 0#32) (j : Job) (dest method : Byte) (p : List Byte)
    (plan : ReplyPlan) :
    startExchange dest method p plan (setJob j s) = (s.prepared j dest method p plan).sending (s.prepared j dest method p plan).txFrame := by
  rw [startExchange, writePayload_idle (s := setJob j s) hb, request_idle]
  · rfl
  · exact hb
  · exact ht

/-- R70: a turn that starts operation `j`'s exchange with the engine idle leaves SEND waiting in its first window. -/
theorem step_sends {s u : State} {j : Job} {dest method : Byte} {p : List Byte} {plan : ReplyPlan}
    (hturn : step s = .next (startExchange dest method p plan (setJob j u))) (hb : u.busy = false) (ht : u.timeoutMs ≠ 0#32) :
    step s = .next ((u.prepared j dest method p plan).sending (u.prepared j dest method p plan).txFrame) :=
  hturn.trans (congrArg _ (startExchange_setJob_idle hb ht j dest method p plan))

/-- R18: over a payload written into TX_PAYLOAD, element `i` is the payload's byte `i`. -/
theorem State.txByte_of_payload {t : State} {m : Memory} {p : List Byte} (hwf : m.wf = true) (ht : t.mem = m.writeElems txPayloadBase p) {i : Nat}
    (hi : i < p.length) : t.txByte i = p[i] := by
  rw [State.txByte, ht, Memory.read_writeElems_at p m txPayloadBase i hi hwf]

/-! #### The turns of the driver between exchanges -/

/-- R146: with no exchange in progress the turn is the operation's. -/
theorem softwareTurn_goesOn {s : State} (hx : s.driver.exch.inProgress = false) : softwareTurn s = jobTurn s := by
  cases he : s.driver.exch with
  | sending _ | receiving => rw [he] at hx; cases hx
  | none | succeeded | failed _ => rw [softwareTurn, he]

section
variable {s : State} {rest : List Event} (ha : s.agenda = .software :: rest)
include ha

theorem step_jobTurn {x : Exchange} (hx : s.driver.exch = x) (hp : x.inProgress = false) : step s = .next (jobTurn { s with agenda := rest }) := by
  subst hx
  exact (step_cons s _ rest ha).trans (congrArg _ (softwareTurn_goesOn (s := { s with agenda := rest }) hp))

/-- R146: an idle driver starts the oldest call. -/
theorem step_startCall {c : Call} {cs : List Call} (hj : s.driver.job = .idle) (hx : s.driver.exch.inProgress = false)
    (hc : s.driver.calls = c :: cs) :
    step s = .next (startCall c { s with agenda := rest, driver := { s.driver with calls := cs } }) := by
  rw [step_jobTurn ha rfl hx, jobTurn, hj, hc]

/-- R146: the failed exchange of any operation but a probe ends the call, with the error's class. -/
theorem step_failedExchange {a : Byte} {e : ErrCode} (hx : s.driver.exch = .failed e)
    (hj : s.driver.job = .scanVersion a ∨ s.driver.job = .setAccept a ∨ s.driver.job = .credits a) :
    step s = .next { s with
      agenda := rest
      driver := { s.driver with exch := .none, job := .idle, result := some (.failure (CallError.ofErr e)) } } := by
  rw [step_jobTurn ha hx rfl, jobTurn]
  obtain hj | hj | hj := hj <;> rw [hj, hx] <;> rfl

/-- R139, R140: a probe has succeeded when its exchange did and the status is 0, and the scan goes on whatever it returned. -/
theorem step_probeDone {a : Byte} {v : BitVec 16} {probes : List Bool} {ok : Bool} (hj : s.driver.job = .scanProbe a v probes)
    (hx : s.driver.exch = .succeeded ∨ ∃ e, s.driver.exch = .failed e)
    (hok : ok = true ↔ s.driver.exch = .succeeded ∧ s.result.statusValid = true ∧ s.result.statusByte = 0#8) :
    step s = .next (probeDone a v probes ok { s with agenda := rest }) := by
  obtain hx | ⟨e, hx⟩ := hx
  · have hstatus : (s.result.statusValid && s.result.statusByte == 0#8) = ok := by
      rw [Bool.eq_iff_iff, hok, Bool.and_eq_true, beq_iff_eq]
      exact ⟨fun h => ⟨hx, h⟩, And.right⟩
    rw [step_jobTurn ha hx rfl, jobTurn, hj, hx, ← hstatus]
  · have hfailed : false = ok := by simpa [hx] using hok
    rw [step_jobTurn ha hx rfl, jobTurn, hj, hx, ← hfailed]

/-- R141: set_accept_coins acts on the Device record of its address. -/
theorem step_startSetAccept {a : Byte} {on : Bool} {d : Device} {cs : List Call} (hj : s.driver.job = .idle)
    (hx : s.driver.exch.inProgress = false) (hc : s.driver.calls = .setAcceptCoins a on :: cs) (hd : findDevice s.driver.devices a = some d) :
    step s = .next (startSetAccept d on { s with agenda := rest, driver := { s.driver with calls := cs } }) := by
  rw [step_startCall ha hj hx hc, startCall, hd]

end

/-! #### scan (R137 to R140) -/

theorem toNat_versionOf (major minor : Byte) : (versionOf major minor).toNat = major.toNat * 256 + minor.toNat :=
  (toNat_append_eq_add major minor).trans (Nat.add_comm ..)

theorem probeMethod_eq_getD {k : Nat} (hk : k < 4) : probeMethod k = ([227#8, 228#8, 230#8, 231#8] : List Byte).getD k 0#8 := by
  match k, hk with
  | 0, _ | 1, _ | 2, _ | 3, _ => rfl

/-- Settles O55: each turn of the scan is an exchange's start, or the call's end. -/
theorem scanBuildsTheDevice : Obligations.ScanBuildsTheDevice := by
  intro s rest a ha
  refine ⟨fun cs hj hx hc hb ht => ?version, fun e hj hx => step_failedExchange ha hx (.inl hj), fun hj hx hb ht => ?firstProbe,
    fun v probes ok hj hx hok => ⟨fun hlen hb ht => ?nextProbe, fun p0 p1 p2 hprobes => ?device⟩⟩
  case version =>
    exact ⟨_, step_sends (step_startCall ha hj hx hc) hb ht, rfl, rfl, rfl, rfl, rfl, rfl, rfl, rfl, rfl⟩
  case firstProbe =>
    have hturn : step s = .next (startProbe a (versionOf (s.rxPayloadByte 1) (s.rxPayloadByte 2)) [] { s with agenda := rest }) := by
      rw [step_jobTurn ha hx rfl, jobTurn, hj, hx]
      rfl
    exact ⟨_, _, step_sends hturn hb ht, rfl, toNat_versionOf _ _, rfl, rfl, rfl, rfl, rfl⟩
  case nextProbe =>
    have hlen' : (probes ++ [ok]).length = probes.length + 1 := List.length_append
    have hturn : step s = .next (startProbe a v (probes ++ [ok]) { s with agenda := rest }) := by
      rw [step_probeDone ha hj hx hok, probeDone, if_pos (by omega)]
    refine ⟨_, step_sends hturn hb ht, rfl, rfl, rfl, rfl, rfl, ?_⟩
    rw [← probeMethod_eq_getD (by omega), ← hlen']
    rfl
  case device =>
    subst hprobes
    exact ⟨_, step_probeDone ha hj hx hok, rfl, findDevice_putDevice_same s.driver.devices ⟨a, v, 0xFFFF#16, p0 && p1, p2 && ok⟩, rfl, rfl⟩

/-! #### set_accept_coins (R141, R142) -/

/-- R49, R65 c: the mask's two bytes are little-endian. -/
theorem toNat_maskBytes (m : BitVec 16) : (m.extractLsb' 0 8).toNat + (m.extractLsb' 8 8).toNat * 256 = m.toNat := by
  rw [BitVec.extractLsb'_toNat, BitVec.extractLsb'_toNat]
  omega

theorem startSetAccept_masterInhibit {d : Device} (h : d.hasMasterInhibit = true) (on : Bool) (s : State) :
    startSetAccept d on s =
      startExchange d.address Config.methodModMinh [if on then 1#8 else 0#8] statusPlan (setJob (.setAccept d.address) s) := if_pos h

theorem startSetAccept_inhibitStatus {d : Device} (hm : d.hasMasterInhibit = false) (h : d.hasInhibitStatus = true) (on : Bool) (s : State) :
    startSetAccept d on s =
      startExchange d.address Config.methodModInh (maskBytes (if on then d.coinMask else 0#16)) statusPlan (setJob (.setAccept d.address) s) := by
  simp [startSetAccept, hm, h]

theorem startSetAccept_incapable {d : Device} (hm : d.hasMasterInhibit = false) (h : d.hasInhibitStatus = false) (on : Bool) (s : State) :
    startSetAccept d on s = finishCall .success s := by
  simp [startSetAccept, hm, h]

/-- Settles O56: the exchange of each capability with its payload, and the call's end by the status delivered or the exchange's error. -/
theorem setAcceptCoinsChoosesItsCommand : Obligations.SetAcceptCoinsChoosesItsCommand := by
  refine ⟨fun s rest a on d cs ha hj hx hc hd hb ht hwf => ?starts, fun s rest a ha hj => ?returns, rfl, rfl, rfl, rfl, rfl, rfl⟩
  case starts =>
    obtain rfl := findDevice_address hd
    have hturn := step_startSetAccept ha hj hx hc hd
    refine ⟨fun hm => ?master, fun hm hi => ?mask⟩
    case master =>
      rw [startSetAccept_masterInhibit hm] at hturn
      refine ⟨_, step_sends hturn hb ht, rfl, ?_, rfl, rfl, rfl, rfl, rfl, rfl⟩
      rw [State.txByte_of_payload hwf rfl Nat.zero_lt_one, List.getElem_cons_zero]
    case mask =>
      rw [startSetAccept_inhibitStatus hm hi] at hturn
      refine ⟨_, step_sends hturn hb ht, rfl, rfl, ?_, rfl, rfl, rfl, rfl, rfl⟩
      rw [State.txByte_of_payload hwf rfl Nat.zero_lt_two, State.txByte_of_payload hwf rfl Nat.one_lt_two]
      exact toNat_maskBytes _
  case returns =>
    intro returns
    have hturn (hx : s.driver.exch = .succeeded) :
        step s = .next (finishCall (if s.result.statusByte = 0#8 then .success else .failure .deviceStatusError) { s with agenda := rest }) := by
      rw [step_jobTurn ha hx rfl, jobTurn, hj, hx]
      dsimp only
      split <;> rfl
    refine ⟨fun hx hok => ?_, fun hx hbad => ?_, fun e hx => step_failedExchange ha hx (.inr (.inl hj))⟩
    · rw [if_pos hok] at hturn; exact hturn hx
    · rw [if_neg hbad] at hturn; exact hturn hx

/-- Settles O57: the call's turn is its return. -/
theorem setAcceptCoinsWithoutCapabilitySendsNothing : Obligations.SetAcceptCoinsWithoutCapabilitySendsNothing := by
  intro s rest a on d cs ha hj hx hc hd hm hi
  rw [step_startSetAccept ha hj hx hc hd, startSetAccept_incapable hm hi]
  rfl

/-! #### set_coin_mask (R143) -/

/-- Settles O58: the record is put back with the new mask. -/
theorem setCoinMaskIsLocal : Obligations.SetCoinMaskIsLocal := by
  intro s rest a m d cs ha hj hx hc hd
  have hturn := step_startCall ha hj hx hc
  rw [startCall, hd] at hturn
  obtain rfl := findDevice_address hd
  exact ⟨_, hturn, rfl, rfl, rfl, findDevice_putDevice_same s.driver.devices { d with coinMask := m },
    fun b hb => findDevice_putDevice_other s.driver.devices (d := { d with coinMask := m }) (Ne.symm hb)⟩

/-! #### query_credits (R144, R145) -/

/-- R65 d: slot `k + 1` is payload bytes 3k+1, 3k+2 and 3k+3. -/
theorem slots_creditOf (p : Nat → Byte) (k : Fin 5) : (creditOf p).slots[k] = ⟨p (3 * k.val + 1), p (3 * k.val + 2), p (3 * k.val + 3)⟩ := by
  match k with
  | 0 | 1 | 2 | 3 | 4 => rfl

/-- Settles O59: the call starts its exchange, and returns the reply parsed, or the exchange's error. -/
theorem queryCreditsParsesTheReply : Obligations.QueryCreditsParsesTheReply := by
  intro s rest a ha
  refine ⟨fun d cs hj hx hc hd hb ht => ?asks, fun hj hx => ⟨creditOf s.rxPayloadByte, ?parses, rfl, slots_creditOf _⟩,
    fun e hj hx => step_failedExchange ha hx (.inr (.inr hj))⟩
  case asks =>
    have hturn := step_startCall ha hj hx hc
    rw [startCall, hd] at hturn
    obtain rfl := findDevice_address hd
    exact ⟨_, step_sends hturn hb ht, rfl, rfl, rfl, rfl, rfl, rfl, rfl, rfl, rfl⟩
  case parses =>
    rw [step_jobTurn ha hx rfl, jobTurn, hj, hx]
    rfl

theorem nextSequence_of_lt {c : Byte} (h : c.toNat < 255) : (nextSequence c).toNat = c.toNat + 1 := by
  have hne : c ≠ 255#8 := by rintro rfl; exact absurd h (by decide)
  rw [nextSequence, if_neg hne]
  bv_omega

/-- Settles O60: below 255 the successor is one more, and the byte that is not below 255 is 255. -/
theorem sequenceCounterSkipsZero : Obligations.SequenceCounterSkipsZero := by
  refine fun c => ⟨nextSequence_of_lt, ?last, fun hzero => ?never⟩
  case last => rintro rfl; rfl
  case never =>
    by_cases h : c.toNat < 255
    · have hsucc := nextSequence_of_lt h
      rw [hzero] at hsucc
      cases hsucc
    · obtain rfl : c = 255#8 := by bv_omega
      cases hzero

end Sys2Proof.Machine
end

section
/-!
PROOFS. What a failed operation leaves behind (R157, R158): the four ways in which an operation can fail once it runs, each the completion of the state
in which it fails.
-/

namespace Sys2Proof.Machine

/-! #### How a moved byte can fail the operation -/

/-- The error a moved byte can end the operation with: none, or that of the echo's comparison (R93), of the checksum (R105), or of the length (R106). -/
inductive ByteFails (s t : State) : Prop
  | no (err : t.err = .none)
  | echo (hp : s.phase = .echo) (cnt : BitVec 9) (heq : t = s.complete .echo .echo cnt)
  | integrity (hp : s.phase = .rxCk) (heq : t = s.complete .integrity .idle 0#9)
  | length (hp : s.phase = .rxCk) (heq : t = { s with rxValid := true }.complete .length .idle 0#9)

section
variable {s : State} (ht : s.timeoutMs ≠ 0#32) (he : s.err = .none)
include ht he

/-- With time in its window a phase opens without an error, if what follows an empty one has none. -/
theorem State.openPhase_err {p : Phase} {next : State → State} (hnext : (next (s.beginPhase p)).err = .none) : (s.openPhase p next).err = .none := by
  rcases State.openPhase_in_time ht p next with ⟨-, heq⟩ | ⟨-, heq⟩ <;> rw [heq]
  · exact hnext
  · exact he

theorem afterTxPayload_err : (afterTxPayload s).err = .none := (congrArg State.err (afterTxPayload_in_time ht)).trans he

theorem afterRxPayload_err : (afterRxPayload s).err = .none := (congrArg State.err (afterRxPayload_in_time ht)).trans he

theorem afterTxCk_err : (afterTxCk s).err = .none := by
  unfold afterTxCk
  split
  · have hmove : (s.beginPhase .echo).toMove ≠ 0 := by simp [State.toMove, State.toMoveIn]
    exact (congrArg State.err (State.openPhase_wait .echo _ s hmove ht)).trans he
  · rfl

/-- With time in its windows a transition fails only where the echo or the frame is judged. -/
theorem ByteFails.phaseDone : ByteFails s (phaseDone s) := by
  unfold Machine.phaseDone
  cases hp : s.phase with
  | idle => exact .no he
  | txHdr => exact .no (State.openPhase_err ht he (afterTxPayload_err (s := s.beginPhase .txPayload) ht he))
  | txPayload => exact .no (afterTxPayload_err ht he)
  | txCk => exact .no (afterTxCk_err ht he)
  | echo =>
    by_cases hsame : s.echoStg = s.wire
    · exact .no (congrArg State.err (afterEcho_of_eq hsame))
    · exact .echo hp _ (afterEcho_of_ne hsame)
  | rxHdr => exact .no (State.openPhase_err ht he (afterRxPayload_err (s := s.beginPhase .rxPayload) ht he))
  | rxPayload => exact .no (afterRxPayload_err ht he)
  | rxCk =>
    rcases finishReceive_cases s with ⟨-, heq⟩ | ⟨-, -, heq⟩ | ⟨-, -, heq⟩
    · exact .integrity hp heq
    · exact .length hp heq
    · exact .no (congrArg State.err heq)

theorem ByteFails.advance : ByteFails s (advance s) := by
  unfold Machine.advance
  dsimp only
  split
  · cases ByteFails.phaseDone (s := { s with idx := s.idx + 1#9 }) ht he with
    | no err => exact .no err
    | echo hp cnt heq => exact .echo hp cnt heq
    | integrity hp heq => exact .integrity hp heq
    | length hp heq => exact .length hp heq
  · exact .no he

end

/-! #### How a step can fail the operation -/

/-- R157: a step that fails the running operation completes it as it stands, with the byte of this step taken where one is judged. -/
inductive StepFails (s t : State) : Prop
  | timeout (heq : t = s.complete s.phase.timeoutErr s.phase s.idx)
  | echo (hp : s.phase = .echo) (fifo stg : List Byte) (cnt : BitVec 9)
      (heq : t = { s with rxFifo := fifo, echoStg := stg }.complete .echo .echo cnt)
  | integrity (hp : s.phase = .rxCk) (fifo stg : List Byte) (heq : t = { s with rxFifo := fifo, rxStg := stg }.complete .integrity .idle 0#9)
  | length (hp : s.phase = .rxCk) (fifo stg : List Byte)
      (heq : t = { s with rxFifo := fifo, rxStg := stg, rxValid := true }.complete .length .idle 0#9)

section
variable {s : State} (h : Inv s) (hb : s.busy = true)
include h hb

/-- The bytes sent are not judged: a write phase fails by its window alone (R44). -/
theorem txAccept_err : (txAccept s).err = .none := by
  have he := (h.accepted hb).err
  cases hv : s.txValid with
  | false => rw [txAccept_disabled s hv]; exact he
  | true =>
    have hw := (State.phase_of_txValid hv).1
    rw [txAccept_enabled s hv]
    cases ByteFails.advance (s := { s with txLine := s.txLine ++ [s.txData] }) (h.timeoutMs_ne_zero (h.ne_idle_of_busy hb)) he with
    | no err => exact err
    | echo hp | integrity hp | length hp => rw [show s.phase = _ from hp] at hw; cases hw

theorem StepFails.rxByte (herr : (rxByte s).err ≠ .none) : StepFails s (rxByte s) := by
  have he := (h.accepted hb).err
  cases hv : s.rxReady with
  | false => rw [rxByte_disabled s hv] at herr; exact absurd he herr
  | true =>
    cases hf : s.rxFifo with
    | nil => rw [rxByte_empty s hf] at herr; exact absurd he herr
    | cons b fifo =>
      rw [rxByte_enabled s b fifo hf hv, State.stage_eq] at herr ⊢
      cases ByteFails.advance (s := { s with
          rxFifo := fifo
          echoStg := if s.phase = .echo then s.echoStg ++ [b] else s.echoStg
          rxStg := if s.phase.ofRecv then s.rxStg ++ [b] else s.rxStg }) (h.timeoutMs_ne_zero (h.ne_idle_of_busy hb)) he with
      | no err => exact absurd err herr
      | echo hp cnt heq => exact .echo hp fifo (s.echoStg ++ [b]) cnt (by simpa [show s.phase = .echo from hp, Phase.ofRecv] using heq)
      | integrity hp heq => exact .integrity hp fifo (s.rxStg ++ [b]) (by simpa [show s.phase = .rxCk from hp, Phase.ofRecv] using heq)
      | length hp heq => exact .length hp fifo (s.rxStg ++ [b]) (by simpa [show s.phase = .rxCk from hp, Phase.ofRecv] using heq)

theorem StepFails.tick (herr : (tick s).err ≠ .none) : StepFails s (tick s) := by
  rcases tick_cases s (h.ne_idle_of_busy hb) with ⟨-, heq⟩ | ⟨-, heq⟩
  · exact .timeout heq
  · rw [heq] at herr; exact absurd (h.accepted hb).err herr

/-- R157: while an operation runs only the tick that ends its window and a judged byte leave an error. -/
theorem StepFails.of_handle {e : Event} {t : State} (hreset : e ≠ .reset) (hcycle : ∀ c, e ≠ .cycle c) (ht : handle e s = .next t)
    (herr : t.err ≠ .none) : StepFails s t := by
  have he := (h.accepted hb).err
  cases e with
  | host _ | request _ | call _ | software =>
    obtain ⟨d, c, dr, r, rfl⟩ := BesideOperation.handle rfl hb ht
    exact absurd he herr
  | txAccept => cases ht; exact absurd (txAccept_err h hb) herr
  | rxByte => cases ht; exact .rxByte h hb herr
  | tick => cases ht; exact .tick h hb herr
  | arrive _ | lose _ => cases ht; exact absurd he herr
  | reset => exact absurd rfl hreset
  | cycle c => exact absurd rfl (hcycle c)

end

/-- R44, R45, R93: SEND writes, and reads its echo. -/
theorem Phase.timeoutErr_of_ofSend {p : Phase} (h : p.ofSend = true) : p.timeoutErr = .wrTimeout ∨ p.timeoutErr = .rdTimeout := by
  cases p <;> simp [Phase.ofSend, Phase.timeoutErr] at h ⊢

/-- Settles O40: each of the four failures is a completion, which writes neither the operands nor what was received. -/
theorem failureLeavesTheRest : Obligations.FailureLeavesTheRest := by
  intro s t e rest hinv ha hreset hcycle hb ht _ herr
  rw [step_cons s e rest ha] at ht
  have hunseen (hr : s.phase.ofRecv = true) : s.rxValid = false ∧ s.result = Result.zero := by
    obtain ⟨-, hinvalid, hzero⟩ := hinv.view
    exact ⟨hinvalid hr, hzero (hinvalid hr)⟩
  have hnotSend (hp : s.phase = .rxCk) : s.phase.ofSend ≠ true := by rw [hp]; nofun
  have hframed (hp : s.phase = .rxCk) : s.phase.ofRecv = true := by rw [hp]; rfl
  cases StepFails.of_handle (hinv.setAgenda rest) hb hreset hcycle ht herr with
  | timeout heq =>
    subst heq
    refine ⟨{ SameOperands.refl s with }, rfl, fun _ => rfl, rfl, fun hs => ⟨{ SameReceived.refl s with }, ?send⟩, fun hr => ?recv,
      fun _ => ⟨rfl, rfl, rfl, rfl⟩⟩
    case send => exact (Phase.timeoutErr_of_ofSend hs).imp_right .inl
    case recv =>
      obtain ⟨hv, hzero⟩ := hunseen hr
      have hread : s.phase.timeoutErr = .rdTimeout := Phase.timeoutErr_of_isRead (Phase.isRead_of_ofRecv hr)
      exact ⟨hzero, by simp [hv, hread], .inl hread⟩
  | echo hp fifo stg cnt heq =>
    subst heq
    exact ⟨{ SameOperands.refl s with }, rfl, fun _ => rfl, rfl, fun _ => ⟨{ SameReceived.refl s with }, .inr (.inr rfl)⟩,
      fun hr => absurd hp (Phase.ne_echo_of_ofRecv hr), nofun⟩
  | integrity hp fifo stg heq =>
    subst heq
    obtain ⟨hv, hzero⟩ := hunseen (hframed hp)
    exact ⟨{ SameOperands.refl s with }, rfl, fun _ => rfl, rfl, fun hs => absurd hs (hnotSend hp), fun _ => ⟨hzero, by simp [hv], .inr (.inl rfl)⟩, nofun⟩
  | length hp fifo stg heq =>
    subst heq
    obtain ⟨-, hzero⟩ := hunseen (hframed hp)
    exact ⟨{ SameOperands.refl s with }, rfl, fun _ => rfl, rfl, fun hs => absurd hs (hnotSend hp), fun _ => ⟨hzero, by simp, .inr (.inr rfl)⟩, nofun⟩

end Sys2Proof.Machine
end

section
/-!
PROOFS. The interrupt output (R160, R161): with the engine idle DONE is raised only by a command that fails as it is accepted (R95, R101, R113),
whether the host issues it or the driver software; IRQ_EN is written by the host alone.
-/

namespace Sys2Proof.Machine

/-! #### What one turn of the driver software does -/

/-- R70, R137 to R146: beside its own bookkeeping a turn starts one exchange, or issues the receive command of one, or neither. -/
inductive SoftwareMove (s t : State) : Prop
  | bookkeeping (d : Driver) (heq : t = { s with driver := d })
  | exchange (d : Driver) (dest method : Byte) (p : List Byte) (plan : ReplyPlan) (heq : t = startExchange dest method p plan { s with driver := d })
  | receive (d : Driver) (o : Op) (heq : t = issueRecv o { s with driver := d })

namespace SoftwareMove

variable {s : State}

theorem of_setDriver {t : State} {d : Driver} (h : SoftwareMove { s with driver := d } t) : SoftwareMove s t := by
  cases h with
  | bookkeeping d heq => exact .bookkeeping d heq
  | exchange d dest method p plan heq => exact .exchange d dest method p plan heq
  | receive d o heq => exact .receive d o heq

theorem startProbe (a : Byte) (v : BitVec 16) (bs : List Bool) : SoftwareMove s (startProbe a v bs s) := .exchange _ _ _ _ _ rfl

theorem finishCall (r : CallResult) : SoftwareMove s (finishCall r s) := .bookkeeping _ rfl

theorem probeDone (a : Byte) (v : BitVec 16) (bs : List Bool) (ok : Bool) : SoftwareMove s (probeDone a v bs ok s) := by
  unfold Machine.probeDone
  dsimp only
  split
  · exact .startProbe _ _ _
  · exact .bookkeeping _ rfl

theorem startSetAccept (d : Device) (on : Bool) : SoftwareMove s (startSetAccept d on s) := by
  unfold Machine.startSetAccept
  split
  · exact .exchange _ _ _ _ _ rfl
  · split
    · exact .exchange _ _ _ _ _ rfl
    · exact .finishCall _

theorem startCall (c : Call) : SoftwareMove s (startCall c s) := by
  unfold Machine.startCall
  cases c with
  | scan a => exact .exchange _ _ _ _ _ rfl
  | setAcceptCoins a on =>
    dsimp only
    split
    · exact .finishCall _
    · exact .startSetAccept _ on
  | setCoinMask a m =>
    dsimp only
    split
    · exact .finishCall _
    · exact .bookkeeping _ rfl
  | queryCredits a =>
    dsimp only
    split
    · exact .finishCall _
    · exact .exchange _ _ _ _ _ rfl

theorem jobTurn : SoftwareMove s (jobTurn s) := by
  have hstays : SoftwareMove s s := .bookkeeping _ rfl
  unfold Machine.jobTurn
  cases s.driver.job with
  | idle =>
    cases s.driver.calls with
    | nil => exact hstays
    | cons c cs => exact (SoftwareMove.startCall c).of_setDriver
  | scanVersion a =>
    cases s.driver.exch with
    | succeeded => exact .startProbe _ _ _
    | failed e => exact .finishCall _
    | none | sending _ | receiving => exact hstays
  | scanProbe a v bs =>
    cases s.driver.exch with
    | succeeded | failed _ => exact .probeDone _ _ _ _
    | none | sending _ | receiving => exact hstays
  | setAccept a =>
    cases s.driver.exch with
    | succeeded => dsimp only; split <;> exact .finishCall _
    | failed e => exact .finishCall _
    | none | sending _ | receiving => exact hstays
  | credits a =>
    cases s.driver.exch with
    | succeeded | failed _ => exact .finishCall _
    | none | sending _ | receiving => exact hstays

theorem softwareTurn : SoftwareMove s (softwareTurn s) := by
  by_cases hx : s.driver.exch.inProgress = true
  · by_cases hd : s.done = true
    · by_cases he : s.err = .none
      · obtain ⟨next, hx⟩ | hx := Exchange.inProgress_iff.mp hx
        · cases next with
          | none => exact softwareTurn_succeeds hd he (.inl hx) ▸ .bookkeeping _ rfl
          | some o => exact .receive _ o (softwareTurn_receives hd he hx)
        · exact softwareTurn_succeeds hd he (.inr hx) ▸ .bookkeeping _ rfl
      · exact .bookkeeping _ (softwareTurn_fails hx hd he)
    · exact .bookkeeping _ (softwareTurn_waits hx (by simpa using hd))
  · rw [softwareTurn_goesOn (by simpa using hx)]
    exact .jobTurn

end SoftwareMove

/-! #### How an idle engine comes to raise DONE -/

section
variable {s : State} (hb : s.busy = false)
include hb

/-- R95: of an accepted SEND only one whose first window is over as it opens is done. -/
theorem issueSend_done (hd : (issueSend s).done = true) : s.timeoutMs = 0#32 := by
  by_contra ht
  rw [issueSend_idle hb ht] at hd
  cases hd

/-- R101, R113: of an accepted receive command only one that fails at once is done. -/
theorem issueRecv_done {o : Op} (hd : (issueRecv o s).done = true) : s.timeoutMs = 0#32 ∨ s.lenchk.lenMode = .reserved := by
  by_contra hno
  obtain ⟨ht, hm⟩ := not_or.mp hno
  rw [issueRecv_opens o hb hm, State.openPhase_wait .rxHdr _ (s.accept o).latchMode (Nat.succ_ne_zero 3) ht] at hd
  cases hd

end

/-- R160: CTRL is as before, and DONE is raised only under the settings with which a command fails as it is accepted. -/
structure RaisesDoneByFailing (s t : State) : Prop where
  ctrl : t.ctrl = s.ctrl
  done : t.done = true → s.done = true ∨ s.timeoutMs = 0#32 ∨ s.lenchk.lenMode = .reserved

namespace RaisesDoneByFailing

variable {s : State} (hb : s.busy = false)
include hb

/-- R70: a request's operand writes reach neither CTRL nor TIMEOUT_MS, and SEND reads no length mode. -/
theorem issueSend_writes (m : Memory) (hdr : TxHdr) (x : Byte) (l : LenChk) (d d' : Driver) :
    RaisesDoneByFailing s { issueSend { s with mem := m, txHdr := hdr, rxSrcExpect := x, lenchk := l, driver := d } with driver := d' } where
  ctrl := (EngineFrame.issueSend (s := { s with mem := m, txHdr := hdr, rxSrcExpect := x, lenchk := l, driver := d }) hb).ctrl
  done hd := .inr (.inl (issueSend_done (s := { s with mem := m, txHdr := hdr, rxSrcExpect := x, lenchk := l, driver := d }) hb hd))

theorem issueRecv (o : Op) : RaisesDoneByFailing s (issueRecv o s) :=
  ⟨(EngineFrame.issueRecv o hb).ctrl, fun hd => .inr (issueRecv_done hb hd)⟩

theorem exec {i : Instr} {t : State} (ht : exec i s = .next t) : RaisesDoneByFailing s t := by
  cases hi : i.isRequest with
  | true =>
    obtain ⟨recvOp, hdr, x, l, heq, -⟩ := exec_request_writes hi hb
    cases heq.symm.trans ht
    exact issueSend_writes hb s.mem hdr x l s.driver _
  | false =>
    cases i with
    | nop => cases ht; exact ⟨rfl, .inl⟩
    | send => cases ht; exact ⟨(EngineFrame.issueSend hb).ctrl, fun hd => .inr (.inl (issueSend_done hb hd))⟩
    | recv | recvStatus | recvData => cases ht; exact issueRecv hb _
    | mCommsRev | mReset | mRdMinh | mModMinh | mRdCredit | mRdInh | mModInh => cases hi

theorem softwareTurn : RaisesDoneByFailing s (softwareTurn s) := by
  cases SoftwareMove.softwareTurn (s := s) with
  | bookkeeping d heq => exact heq ▸ ⟨rfl, .inl⟩
  | exchange d dest method p plan heq =>
    rw [heq, startExchange, writePayload_idle (s := { s with driver := d }) hb, request,
      writeOperands_idle (s := { s with driver := d, mem := _ }) hb, noteSending_eq]
    exact issueSend_writes hb _ _ _ _ d _
  | receive d o heq => exact heq ▸ { issueRecv (s := { s with driver := d }) hb o with }

end RaisesDoneByFailing

/-! #### How an idle engine comes to raise `irq` -/

theorem State.irq_iff {s : State} : s.irq = true ↔ s.done = true ∧ s.ctrl.irqEn = true := Bool.and_eq_true_iff

/-- The event is this host access, or a whole cycle that holds it (R190). -/
def Event.accesses (e : Event) (a : HostAccess) : Prop := e = .host a ∨ ∃ c : Cycle, e = .cycle c ∧ c.host = some a

theorem Event.accesses.isLineEvent {e : Event} {a : HostAccess} (h : e.accesses a) : e.isLineEvent = false := by
  obtain rfl | ⟨c, rfl, -⟩ := h <;> rfl

/-- R160: the two ways in which a step raises `irq` while no operation runs. -/
inductive IdleRaises (s : State) (e : Event) : Prop
  | fails (line : e.isLineEvent = false) (done : s.done = false) (how : s.timeoutMs = 0#32 ∨ s.lenchk.lenMode = .reserved)
  | enables (done : s.done = true) (v : Word) (bit : v.toNat.testBit 2 = true) (access : e.accesses (.write .word 0x000 v))

/-- In a whole cycle an idle engine moves no byte and times nothing: there is the host's access alone, or Reset (R190). -/
theorem cycleEvent_idle {c : Cycle} {s t : State} (hb : s.busy = false) (hp : s.phase = .idle) (ht : cycleEvent c s = .next t) :
    t = resetEvent s ∨ t = s ∨ ∃ a, c.host = some a ∧ hostAccess a s = .next t := by
  obtain ⟨htx, hrx⟩ := State.streams_quiet hp
  have hmoved : cycleTransfer c s = s := by simp [cycleTransfer, htx, hrx]
  have hticked : (if c.tick then tick s else s) = s := by rw [tick_idle s hp, ite_self]
  have haccess (a : HostAccess) : cycleHost false a = a := by cases a <;> rfl
  unfold cycleEvent at ht
  dsimp only at ht
  rw [hmoved, hticked, hb] at ht
  split at ht
  · cases ht; exact .inl rfl
  · cases hh : c.host with
    | none => rw [hh] at ht; cases ht; exact .inr (.inl rfl)
    | some a => rw [hh] at ht; exact .inr (.inr ⟨a, rfl, haccess a ▸ ht⟩)

section
variable {s t : State} {e : Event} (hirq : s.irq = false) (hraised : t.irq = true)
include hirq hraised

theorem RaisesDoneByFailing.idleRaises (h : RaisesDoneByFailing s t) (he : e.isLineEvent = false) : IdleRaises s e := by
  obtain ⟨hd, hen⟩ := State.irq_iff.mp hraised
  rw [h.ctrl] at hen
  have hdone : s.done = false := by simpa [State.irq, hen] using hirq
  exact .fails he hdone ((h.done hd).resolve_left (by simp [hdone]))

/-- Of the registers that are no command only CTRL can raise `irq` (R11, R20). -/
theorem IdleRaises.store {off : Nat} {v : Word} (hal : off % 4 = 0) (ht : t = (Reg.ofOffset off).store v s) (he : e.accesses (.write .word off v)) :
    IdleRaises s e := by
  obtain ⟨hd, hen⟩ := State.irq_iff.mp hraised
  have hat := Reg.at_ofOffset hal
  cases hr : Reg.ofOffset off <;> rw [hr] at ht hat <;> subst ht
  case ctrl =>
    obtain rfl : off = 0x000 := hat
    exact .enables hd v hen he
  case status =>
    obtain ⟨hdone, -⟩ := Bool.and_eq_true_iff.mp hd
    exact absurd (hirq.symm.trans (State.irq_iff.mpr ⟨hdone, hen⟩)) nofun
  all_goals exact absurd (hirq.symm.trans hraised) nofun

theorem IdleRaises.hostAccess {a : HostAccess} (hb : s.busy = false) (ht : hostAccess a s = .next t) (he : e.accesses a) : IdleRaises s e := by
  rcases hostAccess_next ht with ⟨off, -, rfl⟩ | ⟨v, -, hcmd⟩ | ⟨off, v, rfl, hal, -, heq⟩
  · exact absurd (hirq.symm.trans hraised) nofun
  · rcases hostCommand_next hcmd with ⟨i, -, hi⟩ | rfl
    · exact (RaisesDoneByFailing.exec hb hi).idleRaises hirq hraised he.isLineEvent
    · exact absurd (hirq.symm.trans hraised) nofun
  · exact .store hirq hraised hal (heq.trans (Reg.write_idle _ v s hb)) he

theorem IdleRaises.of_handle (h : Inv s) (hb : s.busy = false) (ht : handle e s = .next t) : IdleRaises s e := by
  have hp : s.phase = .idle := (h.engineOk.idle_of_not_busy hb).phase
  have hsame : s.irq ≠ t.irq := fun heq => absurd (hirq.symm.trans (heq.trans hraised)) nofun
  by_cases he : e.isLineEvent = true
  · obtain ⟨fifo, heq⟩ := handle_lineEvent_idle he hp
    cases heq.symm.trans ht
    exact absurd rfl hsame
  · cases e with
    | host a => exact .hostAccess hirq hraised hb ht (.inl rfl)
    | request w =>
      obtain ⟨i, -, hi⟩ := issueRequest_next ht
      exact (RaisesDoneByFailing.exec hb hi).idleRaises hirq hraised rfl
    | call c => cases ht; exact absurd rfl hsame
    | software => cases ht; exact (RaisesDoneByFailing.softwareTurn hb).idleRaises hirq hraised rfl
    | reset => cases ht; cases hraised
    | cycle c =>
      rcases cycleEvent_idle hb hp ht with rfl | rfl | ⟨a, hc, ha⟩
      · cases hraised
      · exact absurd rfl hsame
      · exact .hostAccess hirq hraised hb ha (.inr ⟨c, rfl, hc⟩)
    | txAccept | rxByte | tick | arrive _ | lose _ => exact absurd rfl he

end

/-- R120: an accepted command that waits has cleared DONE. -/
theorem exec_waits_done {i : Instr} {s t : State} (hi : i = .send ∨ i = .recv ∨ i = .recvStatus ∨ i = .recvData) (hb : s.busy = false)
    (ht : exec i s = .next t) (hbt : t.busy = true) : t.done = false := by
  have hrecv {o : Op} (ho : o.isRecv = true) (hwaits : (issueRecv o s).busy = true) : (issueRecv o s).done = false := by
    rcases issueRecv_cases ho s with ⟨hbusy, -⟩ | ⟨-, heq | heq | heq⟩
    · exact absurd (hb.symm.trans hbusy) nofun
    all_goals rw [heq] at hwaits ⊢
    · cases hwaits
    · rfl
    · cases hwaits
  obtain rfl | rfl | rfl | rfl := hi <;> cases ht
  · rcases issueSend_cases s with ⟨hbusy, -⟩ | ⟨-, heq | heq⟩
    · exact absurd (hb.symm.trans hbusy) nofun
    · exact congrArg State.done heq
    · rw [heq] at hbt; cases hbt
  all_goals exact hrecv rfl hbt

/-- Settles O43: a running operation has DONE = 0, so only its completion raises `irq`; an idle engine raises it in the two ways above. -/
theorem irqFollowsDone : Obligations.IrqFollowsDone := by
  refine ⟨fun _ => rfl, fun s rest v ha hv => ⟨_, statusWriteClearsDoneAndCmdErr s rest v ha, by simp [State.irq, hv]⟩,
    fun s rest ha => ⟨_, step_cons s _ rest ha, rfl⟩, fun i s t hi hb ht hbt => by simp [State.irq, exec_waits_done hi hb ht hbt],
    fun s t e rest hinv ha ht hirq hraised => ?_⟩
  obtain ⟨hdone, -⟩ := State.irq_iff.mp hraised
  have hbt : t.busy = false := by
    obtain ⟨-, hexcl, -⟩ := (everyStepKeepsTheInvariant s t hinv ht).sequencer
    simpa [hdone] using hexcl
  cases hb : s.busy with
  | true => exact .inl ⟨(hinv.accepted hb).done, hdone, hbt, .inl rfl⟩
  | false =>
    rw [step_cons s e rest ha] at ht
    cases IdleRaises.of_handle (s := { s with agenda := rest }) hirq hraised (hinv.setAgenda rest) hb ht with
    | fails line done how => exact .inl ⟨done, hdone, hbt, .inr ⟨line, how⟩⟩
    | enables done v bit access => exact .inr ⟨done, rfl, v, bit, access⟩

end Sys2Proof.Machine
end

section
/-!
PROOFS. Reset (R180): the word every register reads after it, by the register and by the offset it stands at.
-/

namespace Sys2Proof.Machine

/-- The reset value of R10's table. -/
def Reg.resetValue : Reg → Word
  | .ctrl => 0x0000_0002#32
  | .ownAddr => 0x0000_0001#32
  | _ => 0x0000_0000#32

/-- R180: what Reset leaves alone (the line, the transport, the agenda) shows in no register. -/
theorem Reg.read_resetEvent (r : Reg) (s : State) : r.read (resetEvent s) = r.read State.reset := by
  cases r <;> rfl

/-- R10: the registers with fields are closed words; the buffers are empty and the RX view is gated off, whatever the element. -/
theorem Reg.read_reset (r : Reg) : r.read State.reset = r.resetValue := by
  cases r with
  | ctrl | txHdr | lenchk | status | result | txCk => decide
  | _ => rfl

/-- R10: only the words at 0x000 and 0x004 have a reset value other than 0. -/
theorem Reg.At.resetValue_eq {off : Nat} {r : Reg} (h : r.At off) :
    r.resetValue = if off = 0x000 then 0x0000_0002#32 else if off = 0x004 then 0x0000_0001#32 else 0x0000_0000#32 := by
  cases r with
  | ctrl | ownAddr => cases h; rfl
  | _ =>
    simp only [Reg.At, txPayloadBase, rxPayloadBase, dbufBase] at h
    simp (disch := omega) only [Reg.resetValue, if_neg]

/-- Settles O44: Reset leads every state to `resetEvent` of it, whose registers read as the reset state's;
and the reset state is `resetEvent` of itself. -/
theorem resetGivesEveryRegisterItsValue : Obligations.ResetGivesEveryRegisterItsValue := by
  unfold Obligations.ResetGivesEveryRegisterItsValue
  intro isReset
  have hreset (s : State) : isReset (resetEvent s) := by
    refine ⟨fun off ha _ => ?_, rfl, rfl, rfl, rfl, rfl, rfl, rfl, rfl⟩
    rw [Reg.read_resetEvent, Reg.read_reset, (Reg.at_ofOffset ha).resetValue_eq]
  exact ⟨hreset State.reset, fun s rest ha => ⟨_, step_cons s _ rest ha, hreset _⟩⟩

end Sys2Proof.Machine
end

section
/-!
PROOFS. One clock cycle (R190): its own inputs before the host's access; and two short facts, that M_RESET is only sent (R67) and that Reset abandons the
operation (R181).
-/

namespace Sys2Proof.Machine

/-! #### A whole cycle -/

/-- The state the host's access of a cycle meets (R190): the byte has moved, then the tick has counted. -/
def cycleInputs (c : Cycle) (s : State) : State :=
  if c.tick then tick (cycleTransfer c s) else cycleTransfer c s

section
variable {c : Cycle} (s : State)

theorem cycleEvent_rst (hrst : c.rst = true) : cycleEvent c s = .next (resetEvent s) := by
  simp [cycleEvent, hrst]

theorem cycleEvent_quiet (hrst : c.rst = false) (hhost : c.host = none) : cycleEvent c s = .next (cycleInputs c s) := by
  simp [cycleEvent, cycleInputs, hrst, hhost]

theorem cycleEvent_host {a : HostAccess} (hrst : c.rst = false) (hhost : c.host = some a) :
    cycleEvent c s = hostAccess (cycleHost (s.busy && !(cycleInputs c s).busy) a) (cycleInputs c s) := by
  simp [cycleEvent, cycleInputs, hrst, hhost]

end

/-- R190: only a write to STATUS meets the completion's cycle. -/
theorem cycleHost_write_other (completed : Bool) (size : AccessSize) {off : Nat} (v : Word) (h : off ≠ 0x020) :
    cycleHost completed (.write size off v) = .write size off v := by
  simp [cycleHost, h]

/-- R20, R190: with its bit 1 dropped, a write to STATUS leaves DONE (assumption 10). -/
theorem Reg.status_write_done (v : Word) (s : State) : (Reg.status.write (v &&& ~~~2#32) s).done = s.done := by
  rw [Reg.write_unlocked _ _ _ rfl]
  simp [Reg.store]

/-- R190: a write to STATUS in the cycle of a completion. -/
theorem hostAccess_status_completed (v : Word) (s : State) :
    hostAccess (cycleHost true (.write .word 0x020 v)) s = .next (Reg.status.write (v &&& ~~~2#32) s) :=
  hostAccess_write 0x020 _ s (by decide) (by decide) (by decide)

/-- Settles O53: each clause is the cycle's host access, if any, on the state that the byte and the tick leave. -/
theorem eventsOfOneCycleAreOrdered : Obligations.EventsOfOneCycleAreOrdered := by
  intro s rest c ha s0 moved ticked
  have hstep : step s = cycleEvent c s0 := step_cons s _ rest ha
  have hticked : cycleInputs c s0 = ticked := rfl
  have hhost {a : HostAccess} (hrst : c.rst = false) (h : c.host = some a) :
      step s = hostAccess (cycleHost (s.busy && !ticked.busy) a) ticked :=
    hstep.trans (cycleEvent_host s0 hrst h)
  refine ⟨fun hrst => ?reset, fun hrst h => ?quiet, fun off hrst h hal ho => ?read, fun v hrst h hb hbt => ?clear, fun hrst h hbt ht => ?send⟩
  case reset => exact hstep.trans (cycleEvent_rst s0 hrst)
  case quiet => exact hstep.trans (cycleEvent_quiet s0 hrst h)
  case read => exact (hhost hrst h).trans (hostAccess_read off ticked ho hal)
  case clear =>
    have hcompleted : (s.busy && !ticked.busy) = true := by simp [hb, hbt]
    refine ⟨_, ?_, Reg.status_write_done v ticked⟩
    rw [hhost hrst h, hcompleted, hostAccess_status_completed]
  case send =>
    refine ⟨ticked.sending ticked.txFrame, ?_, rfl, rfl⟩
    rw [hhost hrst h, cycleHost_write_other _ _ _ (by decide), hostAccess_command, hostCommand_of_decodeCmd (i := .send) rfl]
    exact congrArg Host.Outcome.next (issueSend_idle hbt ht)

/-! #### M_RESET, and Reset -/

/-- Settles O27: the request writes TX_HDR with method 1, and SEND waits in its first window. -/
theorem resetRequestIsOnlySent : Obligations.ResetRequestIsOnlySent := fun _ dest len _ hb ht =>
  congrArg Host.Outcome.next (sendHeader_idle hb ht dest len Config.methodReset)

/-- Settles O45: the next state is `resetEvent`'s, which takes STATUS and the driver from the reset state and the line and the transport from `s`. -/
theorem resetAbandonsTheOperation : Obligations.ResetAbandonsTheOperation := by
  intro s rest ha
  exact ⟨_, step_cons s _ rest ha, rfl, rfl, rfl, rfl, rfl, resetEvent_txLine _, resetEvent_rxFifo _, resetEvent_params _, resetEvent_agenda _, rfl⟩

end Sys2Proof.Machine
end
